-- ==== Sys2Proof/Word.lean ====
section
/-! DEFINITION. The widths of the part's fields: bytes of a frame, tags, 16-bit fields and counters.
Values that the manual adds, masks or shifts are bit vectors; everything else is a named type. -/

namespace Sys2Proof

/-- One byte of a command frame, an answer or an item group (R182, R184, R186). -/
abbrev Byte := BitVec 8

/-- A tick count attached to something, 0 to 16,777,215; arithmetic on it is modulo 2^24 (R8). -/
abbrev Tag := BitVec 24

/-- A two-byte field of a frame: horizon, pre, post, lag, budget, capacity, deadband, keepalive,
divisor (R182). Also a sample value, which is read as two's complement (R17, R185). -/
abbrev Half := BitVec 16

/-- A 16-bit counter; it saturates at 65,535 (scope, "Counters"). -/
abbrev Counter := BitVec 16

/-- A lane set or watch set; bit n stands for lane Ln (scope, "Lane sets"). -/
abbrev LaneSet := BitVec 16

end Sys2Proof
end

