-- ==== Sys2Proof/Config.lean ====
section
/-! DEFINITION. The fixed numbers of the part (scope, "Fixed numbers"). The manual leaves no value
of an effect open, so there is no free value here; see notes/assumptions for the choices made. -/

namespace Sys2Proof.Config

/-- Record places in the history memory (R15). -/
abbrev recordPlaces : Nat := 4096

/-- The smallest capacity of a lane that has any (R15). -/
abbrev minCapacity : Nat := 4

/-- The largest capacity of a lane (R15). -/
abbrev maxCapacity : Nat := 2048

/-- Sample frames the Input Queue holds (R52). -/
abbrev queueDepth : Nat := 16

/-- Items one response buffer holds (R124). -/
abbrev bufferDepth : Nat := 128

/-- The largest budget of a request (R61). -/
abbrev maxBudget : Nat := 4096

/-- The largest lease length (R146). -/
abbrev maxLease : Nat := 1048575

/-- The largest number of items one READ ITEMS asks for (R128). -/
abbrev maxReadItems : Nat := 32

/-- How far ahead of *now* a trigger tag may lie (R8). -/
abbrev aheadLimit : Nat := 65535

/-- Half the tag range; a tag is past or present below this age (R8). -/
abbrev halfRange : Nat := 2 ^ 23

/-- The age of its window start at which a request expires (R13). -/
abbrev expiryAge : Nat := 2 ^ 22

/-- The age of its key tag at which a record retires (R13). -/
abbrev retirementAge : Nat := 2 ^ 23

/-- The bits of a sample frame (R185). -/
abbrev frameBits : Nat := 22

end Sys2Proof.Config
end

