-- ==== Sys2Proof/Syntax.lean ====
section
/-! DEFINITION. The commands and events of the part: one constructor of `Instr` for each row of the
table of operations and events. The 24 rows that a command frame carries are also gathered in
`Command`, which is what a frame's bytes spell (R182); an `Instr` of such a row is the TAKING of
that frame on a port. Parameter fields stay as the frame carries them, ignored bits included. -/

namespace Sys2Proof

/-- A master, named by its port, M0 to M3. -/
abbrev Master := Fin 4

/-- A lane, L0 to L15. -/
abbrev LaneId := Fin 16

/-- A request slot id, 0 to 7. -/
abbrev SlotId := Fin 8

/-- A level seen on an input line. -/
inductive Level
  | low
  | high
  deriving DecidableEq, Repr

/-- What a command frame says: its code and its parameter fields, in the order of the table of R182. -/
inductive Command
  | attach (horizon : Half) (watchSet : LaneSet) (lease : BitVec 24)
  | detach
  | keep
  | resetPort
  | readDevice
  | submitWindow (trigger : Tag) (pre post : Half) (lanes : LaneSet) (control : Byte) (budget : Half) (label : Byte)
  | cancel (slot : Byte)
  | querySlot (slot : Byte)
  | setTemplate (lag pre post : Half) (lanes : LaneSet) (control : Byte) (budget : Half) (label : Byte)
  | clearTemplate
  | readItems (largest : Byte)
  | setWatermark (watermark : Byte)
  | readLane (lane : Byte)
  | readFlags
  | ackFlags (flags : Byte)
  | setMask (mask : Byte)
  | claim
  | release
  | laneSetup (lane enable : Byte) (deadband keepalive : Half)
  | partition (lane : Byte) (capacity : Half)
  | purgeLanes (lanes : LaneSet)
  | setTickSource (source : Byte) (divisor : Half)
  | clearCounters (lanes : LaneSet) (device : Byte)
  | testCheck (lane : Byte)
  deriving DecidableEq, Repr

/-- The steps of the part, one constructor per row of the table, in the table's order.

The first 24 are takings of well-checked command frames on port `m` (R139).  The rest are events:
frames answered BAD_CHECK or UNKNOWN, the port's byte-level events, ticks and their reactions, the
lines, the acquisition link, the two completions, and the reset input. -/
inductive Instr
  | attach (m : Master) (horizon : Half) (watchSet : LaneSet) (lease : BitVec 24)
  | detach (m : Master)
  | keep (m : Master)
  | resetPort (m : Master)
  | readDevice (m : Master)
  | submitWindow (m : Master) (trigger : Tag) (pre post : Half) (lanes : LaneSet) (control : Byte) (budget : Half) (label : Byte)
  | cancel (m : Master) (slot : Byte)
  | querySlot (m : Master) (slot : Byte)
  | setTemplate (m : Master) (lag pre post : Half) (lanes : LaneSet) (control : Byte) (budget : Half) (label : Byte)
  | clearTemplate (m : Master)
  | readItems (m : Master) (largest : Byte)
  | setWatermark (m : Master) (watermark : Byte)
  | readLane (m : Master) (lane : Byte)
  | readFlags (m : Master)
  | ackFlags (m : Master) (flags : Byte)
  | setMask (m : Master) (mask : Byte)
  | claim (m : Master)
  | release (m : Master)
  | laneSetup (m : Master) (lane enable : Byte) (deadband keepalive : Half)
  | partition (m : Master) (lane : Byte) (capacity : Half)
  | purgeLanes (m : Master) (lanes : LaneSet)
  | setTickSource (m : Master) (source : Byte) (divisor : Half)
  | clearCounters (m : Master) (lanes : LaneSet) (device : Byte)
  | testCheck (m : Master) (lane : Byte)
  /-- A whole frame, its check byte included, whose bytes do not sum to 0 (R139). -/
  | badCheckFrame (m : Master) (frame : List Byte)
  /-- A two-byte frame of a code that names no command, with a good check (R140). -/
  | unknownCodeFrame (m : Master) (code : Byte)
  | selectionBegin (m : Master)
  | selectionEnd (m : Master)
  | itemRemoval (m : Master)
  /-- A high level seen on TICK (R3). -/
  | tickArrival
  | dividerExpiry
  | leaseExpiry (m : Master)
  | requestExpiry (m : Master) (slot : SlotId)
  | recordRetirement (lane : LaneId)
  | openGapRetirement (lane : LaneId)
  /-- A high level seen on CAPm (R88). -/
  | captureEdge (m : Master)
  /-- The remaining QCLK edges of a 22-bit frame; `qsyn` is the level sampled at the last of them.
  The frame's bit 1 is the most significant bit of `frame` (R185). -/
  | sampleFrameArrival (qsyn : Level) (frame : BitVec 22)
  /-- A QCLK rising edge with QSYN high, while a frame is assembled (R46). -/
  | partialFrameDiscard (qdat : Bool)
  | storeCompletion
  | itemCompletion
  | powerOnReset
  /-- A QCLK rising edge with QSYN high, while the receiver is idle (R44). -/
  | frameStart (qdat : Bool)
  /-- Any other QCLK rising edge, with the levels sampled there (R45). -/
  | linkBitSampled (qsyn : Level) (qdat : Bool)
  | byteReceived (m : Master) (byte : Byte)
  | answerByteShifted (m : Master)
  | rstRelease
  /-- A level seen on TICK (R3). -/
  | tickLevelChange (level : Level)
  | capFallingEdge (m : Master)
  deriving DecidableEq, Repr

end Sys2Proof
end

