-- ==== Sys2Proof/Decode.lean ====
section
/-! DEFINITION. What the bytes of a command frame spell (R138 to R140, R182), the frame each command
is sent as, and the host's table decoder. The rows of the table give no bits, so no word spells a
row (`decodeTableWord`). -/

namespace Sys2Proof

/-! ### Byte order -/

/-- The high byte of a two-byte field, sent first (R182). -/
def hiByte (x : Half) : Byte := x.extractLsb' 8 8

/-- The low byte of a two-byte field. -/
def loByte (x : Half) : Byte := x.extractLsb' 0 8

/-- A two-byte field as it is sent, most significant byte first (R182). -/
def bytesOfHalf (x : Half) : List Byte := [hiByte x, loByte x]

/-- A three-byte field as it is sent, most significant byte first (R182). -/
def bytesOfTag (x : BitVec 24) : List Byte :=
  [x.extractLsb' 16 8, x.extractLsb' 8 8, x.extractLsb' 0 8]

/-- The two-byte field two bytes carry. -/
def halfOfBytes (a b : Byte) : Half := a ++ b

/-- The three-byte field three bytes carry. -/
def tagOfBytes (a b c : Byte) : BitVec 24 := a ++ b ++ c

/-! ### Frames -/

/-- The code byte of a command (R182). -/
def Command.code : Command → Byte
  | .attach .. => 0x10
  | .detach => 0x11
  | .keep => 0x12
  | .resetPort => 0x13
  | .readDevice => 0x14
  | .submitWindow .. => 0x20
  | .cancel .. => 0x21
  | .querySlot .. => 0x22
  | .setTemplate .. => 0x28
  | .clearTemplate => 0x29
  | .readItems .. => 0x30
  | .setWatermark .. => 0x31
  | .readLane .. => 0x38
  | .readFlags => 0x40
  | .ackFlags .. => 0x41
  | .setMask .. => 0x42
  | .claim => 0x50
  | .release => 0x51
  | .laneSetup .. => 0x52
  | .partition .. => 0x53
  | .purgeLanes .. => 0x54
  | .setTickSource .. => 0x55
  | .clearCounters .. => 0x56
  | .testCheck .. => 0x57

/-- The parameter bytes of a command, in the order of the table of R182. -/
def Command.params : Command → List Byte
  | .attach h w l => bytesOfHalf h ++ bytesOfHalf w ++ bytesOfTag l
  | .submitWindow t pre post ls c b lab =>
      bytesOfTag t ++ bytesOfHalf pre ++ bytesOfHalf post ++ bytesOfHalf ls ++ [c] ++ bytesOfHalf b ++ [lab]
  | .cancel i => [i]
  | .querySlot i => [i]
  | .setTemplate lag pre post ls c b lab =>
      bytesOfHalf lag ++ bytesOfHalf pre ++ bytesOfHalf post ++ bytesOfHalf ls ++ [c] ++ bytesOfHalf b ++ [lab]
  | .readItems n => [n]
  | .setWatermark w => [w]
  | .readLane l => [l]
  | .ackFlags f => [f]
  | .setMask f => [f]
  | .laneSetup l e d k => [l, e] ++ bytesOfHalf d ++ bytesOfHalf k
  | .partition l c => [l] ++ bytesOfHalf c
  | .purgeLanes ls => bytesOfHalf ls
  | .setTickSource src d => [src] ++ bytesOfHalf d
  | .clearCounters ls d => bytesOfHalf ls ++ [d]
  | .testCheck l => [l]
  | .detach | .keep | .resetPort | .readDevice | .clearTemplate | .readFlags | .claim | .release => []

/-- The sum of bytes modulo 256 (R139). -/
def byteSum (bs : List Byte) : Byte := bs.foldl (· + ·) 0

/-- The check byte that brings the sum of the frame to 0 modulo 256 (R139). -/
def checkByte (bs : List Byte) : Byte := 0 - byteSum bs

/-- The whole frame of a command: code, parameters, check byte (R182). -/
def Command.frame (c : Command) : List Byte :=
  (c.code :: c.params) ++ [checkByte (c.code :: c.params)]

/-- The number of parameter bytes a code carries; `none` for a code that names no command (R182). -/
def paramCount (code : Byte) : Option Nat :=
  match code.toNat with
  | 0x10 => some 7
  | 0x11 => some 0
  | 0x12 => some 0
  | 0x13 => some 0
  | 0x14 => some 0
  | 0x20 => some 13
  | 0x21 => some 1
  | 0x22 => some 1
  | 0x28 => some 12
  | 0x29 => some 0
  | 0x30 => some 1
  | 0x31 => some 1
  | 0x38 => some 1
  | 0x40 => some 0
  | 0x41 => some 1
  | 0x42 => some 1
  | 0x50 => some 0
  | 0x51 => some 0
  | 0x52 => some 6
  | 0x53 => some 3
  | 0x54 => some 2
  | 0x55 => some 3
  | 0x56 => some 3
  | 0x57 => some 1
  | _ => none

/-- A code the part knows (R140). -/
def knownCode (code : Byte) : Bool := (paramCount code).isSome

/-- The length of a frame of a code, its check byte included; an unknown code gives two bytes
(R138, R140). -/
def frameLength (code : Byte) : Nat := (paramCount code).getD 0 + 2

/-- A command without parameters. -/
def noParams (c : Command) : List Byte → Option Command
  | [] => some c
  | _ :: _ => none

/-- A command with one parameter byte. -/
def oneByte (f : Byte → Command) : List Byte → Option Command
  | [a] => some (f a)
  | _ => none

/-- The parameters of ATTACH: horizon, watch set, lease (R182). -/
def attachParams : List Byte → Option Command
  | [h1, h0, w1, w0, l2, l1, l0] => some (.attach (halfOfBytes h1 h0) (halfOfBytes w1 w0) (tagOfBytes l2 l1 l0))
  | _ => none

/-- The parameters of SUBMIT WINDOW: trigger, pre, post, lane set, control, budget, label (R182). -/
def submitWindowParams : List Byte → Option Command
  | [t2, t1, t0, a1, a0, p1, p0, s1, s0, c, b1, b0, lab] =>
      some (.submitWindow (tagOfBytes t2 t1 t0) (halfOfBytes a1 a0) (halfOfBytes p1 p0) (halfOfBytes s1 s0) c (halfOfBytes b1 b0) lab)
  | _ => none

/-- The parameters of SET TEMPLATE: lag, pre, post, lane set, control, budget, label (R182). -/
def setTemplateParams : List Byte → Option Command
  | [g1, g0, a1, a0, p1, p0, s1, s0, c, b1, b0, lab] =>
      some (.setTemplate (halfOfBytes g1 g0) (halfOfBytes a1 a0) (halfOfBytes p1 p0) (halfOfBytes s1 s0) c (halfOfBytes b1 b0) lab)
  | _ => none

/-- The parameters of LANE SETUP: lane, enable, deadband, keepalive (R182). -/
def laneSetupParams : List Byte → Option Command
  | [l, e, d1, d0, k1, k0] => some (.laneSetup l e (halfOfBytes d1 d0) (halfOfBytes k1 k0))
  | _ => none

/-- The parameters of PARTITION: lane, capacity (R182). -/
def partitionParams : List Byte → Option Command
  | [l, c1, c0] => some (.partition l (halfOfBytes c1 c0))
  | _ => none

/-- The parameter of PURGE LANES: a lane set (R182). -/
def purgeLanesParams : List Byte → Option Command
  | [s1, s0] => some (.purgeLanes (halfOfBytes s1 s0))
  | _ => none

/-- The parameters of SET TICK SOURCE: source, divisor (R182). -/
def setTickSourceParams : List Byte → Option Command
  | [src, d1, d0] => some (.setTickSource src (halfOfBytes d1 d0))
  | _ => none

/-- The parameters of CLEAR COUNTERS: a lane set and the device choice (R182). -/
def clearCountersParams : List Byte → Option Command
  | [s1, s0, d] => some (.clearCounters (halfOfBytes s1 s0) d)
  | _ => none

/-- The command that a code and its parameter bytes spell (R182). -/
def decodeCommand (code : Byte) (ps : List Byte) : Option Command :=
  match code.toNat with
  | 0x10 => attachParams ps
  | 0x11 => noParams .detach ps
  | 0x12 => noParams .keep ps
  | 0x13 => noParams .resetPort ps
  | 0x14 => noParams .readDevice ps
  | 0x20 => submitWindowParams ps
  | 0x21 => oneByte .cancel ps
  | 0x22 => oneByte .querySlot ps
  | 0x28 => setTemplateParams ps
  | 0x29 => noParams .clearTemplate ps
  | 0x30 => oneByte .readItems ps
  | 0x31 => oneByte .setWatermark ps
  | 0x38 => oneByte .readLane ps
  | 0x40 => noParams .readFlags ps
  | 0x41 => oneByte .ackFlags ps
  | 0x42 => oneByte .setMask ps
  | 0x50 => noParams .claim ps
  | 0x51 => noParams .release ps
  | 0x52 => laneSetupParams ps
  | 0x53 => partitionParams ps
  | 0x54 => purgeLanesParams ps
  | 0x55 => setTickSourceParams ps
  | 0x56 => clearCountersParams ps
  | 0x57 => oneByte .testCheck ps
  | _ => none

/-- The command a whole frame spells, its check byte left aside; `none` for an unknown code. -/
def decodeFrame : List Byte → Option Command
  | [] => none
  | code :: rest => decodeCommand code rest.dropLast

/-- The host's table decoder. The rows of the table of operations and events carry no bits, so no
word spells one of them. -/
def decodeTableWord (_nbits _w : Nat) : Option Instr := none

end Sys2Proof
end

