-- ==== Sys2Proof/Machine/State.lean ====
section
/-! DEFINITION. The state of the part, block by block, as plain data, and its values after power-on
reset. What the manual derives (the free pool, the protect age, LEVEL, the interrupt lines, a store
being in flight) is computed from these fields in the operations and held nowhere. -/

namespace Sys2Proof.Machine

/-! ### Lane Histories -/

/-- A history record (R17, R18). `checkAgrees` says whether the stored check agrees with the
contents (R37). -/
inductive Record
  | sample (key : Tag) (value : Half) (restated afterLoss checkAgrees : Bool)
  | gap (firstLost lastLost : Tag) (lostCount : Counter) (checkAgrees : Bool)
  deriving DecidableEq, Repr

/-- The open gap of a lane (R21). -/
structure OpenGap where
  firstLost : Tag
  lastLost : Tag
  lostCount : Counter
  deriving DecidableEq, Repr

/-- One lane: its settings, records (oldest first), open gap, loss mark, check-test arm and five
counters (the table of section 2.1). -/
structure Lane where
  enabled : Bool
  capacity : Nat
  deadband : Half
  keepalive : Half
  records : List Record
  openGap : Option OpenGap
  lossMark : Bool
  checkArm : Bool
  stored : Counter
  suppressed : Counter
  lost : Counter
  restated : Counter
  corrupt : Counter
  deriving DecidableEq, Repr

/-- A lane after power-on reset (R43). -/
def Lane.reset : Lane :=
  { enabled := false, capacity := 0, deadband := 0, keepalive := 0, records := [], openGap := none,
    lossMark := false, checkArm := false, stored := 0, suppressed := 0, lost := 0, restated := 0, corrupt := 0 }

/-! ### Acquisition Receiver -/

/-- The assembly state and the partial frame, its bits in the order they came (section 3.1). -/
inductive Assembly
  | idle
  | assembling (bits : List Bool)
  deriving DecidableEq, Repr

/-- A frame of the Input Queue (R51). -/
structure Frame where
  lane : LaneId
  value : Half
  force : Bool
  tag : Tag
  deriving DecidableEq, Repr

/-! ### Request Slots and Capture Unit -/

/-- Where a request came from (R58). -/
inductive Origin
  | command
  | capture
  deriving DecidableEq, Repr

/-- The class of a request (R58). -/
inductive ReqClass
  | normal
  | urgent
  deriving DecidableEq, Repr

/-- The state of a slot that is not FREE (R58). A FREE slot holds no request at all. -/
inductive SlotState
  | waiting
  | ready
  | active
  | closing
  deriving DecidableEq, Repr

/-- The reason a request finishes (R72). -/
inductive Ending
  | complete
  | truncated
  | cancelled
  | expired
  deriving DecidableEq, Repr

/-- The phases a lane of a request passes through (section 6.5). -/
inductive Phase
  | lead
  | records
  | finish
  deriving DecidableEq, Repr

/-- A resume point (R58, R116). -/
structure Resume where
  lane : LaneId
  phase : Phase
  lastKey : Option Tag
  contributed : Bool
  deriving DecidableEq, Repr

/-- The fields of a slot that is not FREE (the table of R58). -/
structure Request where
  state : SlotState
  origin : Origin
  cls : ReqClass
  trigger : Tag
  pre : Half
  post : Half
  lanes : LaneSet
  leadWanted : Bool
  budget : Nat
  label : Byte
  opened : Bool
  itemsWritten : Nat
  resume : Option Resume
  ending : Option Ending
  deriving DecidableEq, Repr

/-- A capture template (R84). -/
structure Template where
  lag : Half
  pre : Half
  post : Half
  lanes : LaneSet
  cls : ReqClass
  leadWanted : Bool
  budget : Nat
  label : Byte
  deriving DecidableEq, Repr

/-- The last capture refusal reason (R84). -/
inductive RefusalReason
  | none
  | notAttached
  | noTemplate
  | queueFull
  deriving DecidableEq, Repr

/-! ### Items and the Extraction Engine -/

/-- One item of a response (R108 to R115, R119). Offsets are the signed numbers the items carry. -/
inductive Item
  | opened (slot : SlotId) (origin : Origin) (cls : ReqClass) (leadWanted : Bool) (label : Byte) (trigger : Tag) (laneCount : Nat)
  | lead (slot : SlotId) (lane : LaneId) (offset : Int) (value : Half) (restated afterLoss : Bool)
  | sample (slot : SlotId) (lane : LaneId) (offset : Int) (value : Half) (restated afterLoss : Bool)
  | gap (slot : SlotId) (lane : LaneId) (firstOffset : Int) (lostCount : Counter) (beganBefore stillOpen : Bool)
  | corrupt (slot : SlotId) (lane : LaneId) (ofGap : Bool) (offset : Int) (value : Half)
  | empty (slot : SlotId) (lane : LaneId)
  | close (slot : SlotId) (label : Byte) (ending : Ending) (itemsWritten : Nat)
  deriving DecidableEq, Repr

/-- An item fixed by the engine, with the resume point its completion sets (R101, R116); a CLOSE
sets none. -/
structure Flight where
  item : Item
  after : Option Resume
  deriving DecidableEq, Repr

/-- What the engine serves while SERVING: a slot, and the item in flight for it (R94). -/
structure Serving where
  master : Master
  slot : SlotId
  flight : Flight
  deriving DecidableEq, Repr

/-! ### Master Ports, Response Buffers, Notification Unit -/

/-- The answer being shifted (R136, R142). `head` holds the bytes composed at the taking; a READ
ITEMS answer goes on with `groups` groups of six bytes taken from the buffer (R128, R129). `cut`
says that the session ended during a READ ITEMS answer, whose remaining bytes read 0x00 (R132). -/
structure Answer where
  head : List Byte
  groups : Nat
  ofReadItems : Bool
  cut : Bool
  shifted : Nat
  deriving DecidableEq, Repr

/-- The frame state of a port, with the bytes received while RECEIVING and the answer while
ANSWERING (R136). -/
inductive FrameState
  | deselected
  | receiving (bytes : List Byte)
  | answering (answer : Answer)
  | trailing
  deriving DecidableEq, Repr

/-- The session record of an attached port (R145). -/
structure Session where
  horizon : Half
  watchSet : LaneSet
  leaseLength : Nat
  leaseRemaining : Nat
  deriving DecidableEq, Repr

/-- The last end reason of a port (R136, R145). -/
inductive EndReason
  | detach
  | lease
  | portReset
  | power
  deriving DecidableEq, Repr

/-- READ ITEMS answer in progress: its fixed count and the items removed so far (R124). -/
structure Reading where
  count : Nat
  removed : Nat
  deriving DecidableEq, Repr

/-- Everything the part holds for one master: its port, session, slots, capture unit, response
buffer, and its flags and mask (R58, R59, R84, R124, R136, R174). -/
structure MasterState where
  frame : FrameState
  /-- SDOn: `none` at high impedance, otherwise the byte last shifted out (R137, R138, R142). -/
  sdo : Option Byte
  session : Option Session
  lastEnd : EndReason
  frameErrors : Counter
  badChecks : Counter
  slots : Vector (Option Request) 8
  /-- The admission order, oldest admission first (R59). -/
  order : List SlotId
  template : Option Template
  refusals : Counter
  lastRefusal : RefusalReason
  capLevel : Level
  /-- The response buffer, oldest item first (R124). -/
  items : List Item
  watermark : Nat
  reading : Option Reading
  closed : Bool
  refused : Bool
  pressure : Bool
  ended : Bool
  /-- The five enables, in the bit places of the flags layout (R183). -/
  mask : BitVec 5
  deriving DecidableEq, Repr

/-- A master's state after power-on reset (R58, R84, R124, R136, R174). -/
def MasterState.reset : MasterState :=
  { frame := .deselected, sdo := none, session := none, lastEnd := .power, frameErrors := 0, badChecks := 0,
    slots := Vector.replicate 8 none, order := [], template := none, refusals := 0, lastRefusal := .none,
    capLevel := .high, items := [], watermark := 128, reading := none,
    closed := false, refused := false, pressure := false, ended := false, mask := 0 }

/-! ### The whole part -/

/-- The tick source (section 1.1). -/
inductive TickSource
  | external
  | divided
  deriving DecidableEq, Repr

/-- The state of the part and, in `pending`, the model's own queue of the commands and events that
are waiting, first in, first out. -/
structure State where
  now : Tag
  tickSource : TickSource
  divisor : Nat
  dividerCount : Nat
  tickLevel : Level
  lanes : Vector Lane 16
  assembly : Assembly
  qsynLevel : Level
  queue : List Frame
  framingErrors : Counter
  parityErrors : Counter
  disabledDiscards : Counter
  queueOverflows : Counter
  masters : Vector MasterState 4
  serving : Option Serving
  normalPtr : Master
  urgentPtr : Master
  claim : Option Master
  /-- RST is low: the reset hold (R7, R57, R137, R156). -/
  resetHold : Bool
  pending : List Instr
  deriving DecidableEq, Repr

/-- The part right after power-on reset, RST released and no event taken since (R7, R43, R57, R80,
R84, R123, R133, R156, R158, R174). -/
def State.reset : State :=
  { now := 0, tickSource := .external, divisor := 1, dividerCount := 0, tickLevel := .high,
    lanes := Vector.replicate 16 Lane.reset,
    assembly := .idle, qsynLevel := .high, queue := [],
    framingErrors := 0, parityErrors := 0, disabledDiscards := 0, queueOverflows := 0,
    masters := Vector.replicate 4 MasterState.reset,
    serving := none, normalPtr := 3, urgentPtr := 3,
    claim := none, resetHold := false, pending := [] }

/-- The part reports no fault: no rule of the manual stops it, so no constructor is needed and no
step ends in one. -/
inductive Fault
  deriving DecidableEq, Repr

/-- Why a step has no meaning. -/
inductive Refusal
  /-- Raised by `exec` alone, for a row that has no meaning yet; safe, the machine stops. -/
  | notModelled (mnemonic : String)
  deriving DecidableEq, Repr

/-! ### Access to one master and one lane -/

/-- What the part holds for master `m`. -/
def State.master (s : State) (m : Master) : MasterState := s.masters[m]

/-- The part with what it holds for master `m` replaced. -/
def State.setMaster (s : State) (m : Master) (x : MasterState) : State :=
  { s with masters := s.masters.set m x }

/-- Lane `l`. -/
def State.lane (s : State) (l : LaneId) : Lane := s.lanes[l]

/-- The part with lane `l` replaced. -/
def State.setLane (s : State) (l : LaneId) (x : Lane) : State :=
  { s with lanes := s.lanes.set l x }

/-- The request in a slot; `none` for a FREE slot. -/
def MasterState.slot (x : MasterState) (i : SlotId) : Option Request := x.slots[i]

/-- A master's state with one slot replaced. -/
def MasterState.setSlot (x : MasterState) (i : SlotId) (r : Option Request) : MasterState :=
  { x with slots := x.slots.set i r }

end Sys2Proof.Machine
end

