-- ==== Sys2Proof/Machine/Operands.lean ====
section
/-! DEFINITION. The operand forms of the commands: lane sets, lane numbers and slot ids, the
enumerated one-byte fields of R183, and the saturating counter. -/

namespace Sys2Proof.Machine

/-- The next value of a 16-bit counter, which stays at 65,535 once there (scope, "Counters"). -/
def bump (c : Counter) : Counter := if c = 65535 then c else c + 1

/-- The four masters, M0 to M3. -/
def allMasters : List Master := [0, 1, 2, 3]

/-- The sixteen lanes, L0 to L15. -/
def allLanes : List LaneId := [0, 1, 2, 3, 4, 5, 6, 7, 8, 9, 10, 11, 12, 13, 14, 15]

/-- The eight slot ids of a master. -/
def allSlots : List SlotId := [0, 1, 2, 3, 4, 5, 6, 7]

/-- A lane set contains a lane: bit n stands for Ln (scope, "Lane sets"; R182). -/
def inSet (ls : LaneSet) (l : LaneId) : Bool := ls.getLsbD l

/-- The lanes of a set in ascending number (R109). -/
def lanesOf (ls : LaneSet) : List LaneId := allLanes.filter (inSet ls)

/-- The lowest-numbered lane of a set (R108); a live slot's set is never empty (R58). -/
def lowestLane (ls : LaneSet) : LaneId := (lanesOf ls).headD 0

/-- Every lane of a set lies in another. -/
def subset (ls watch : LaneSet) : Bool := ls &&& ~~~watch == 0

/-- A lane set with no lanes, or with a lane outside the watch set, is answered LANES (R63, R85). -/
def lanesRefused (ls watch : LaneSet) : Bool := ls == 0 || !subset ls watch

/-- A lane number field; a value above 15 names no lane (R182). -/
def laneOf? (b : Byte) : Option LaneId := if h : b.toNat < 16 then some ⟨b.toNat, h⟩ else none

/-- A slot id field; a value above 7 names no slot (R182). -/
def slotOf? (b : Byte) : Option SlotId := if h : b.toNat < 8 then some ⟨b.toNat, h⟩ else none

/-- The class choice of a control byte, bit 0 (R183). -/
def classOf (control : Byte) : ReqClass := if control.getLsbD 0 then .urgent else .normal

/-- The lead wanted choice of a control byte, bit 1 (R183). -/
def leadWantedOf (control : Byte) : Bool := control.getLsbD 1

/-- The use-now choice of a SUBMIT WINDOW control byte, bit 2 (R183). -/
def useNowOf (control : Byte) : Bool := control.getLsbD 2

/-- The enable choice of LANE SETUP, bit 0 (R183). -/
def enableOf (enable : Byte) : Bool := enable.getLsbD 0

/-- The source field of SET TICK SOURCE; any other byte names neither source (R183). -/
def sourceOf? (source : Byte) : Option TickSource :=
  if source = 0 then some .external else if source = 1 then some .divided else none

/-- The divisor field, in which 0 stands for 65,536 (R5, R182). -/
def divisorOf (d : Half) : Nat := if d = 0 then 65536 else d.toNat

/-- A yes-or-no field of a command; any other byte means neither (R171, R183). -/
def yesNoOf? (b : Byte) : Option Bool :=
  if b = 0 then some false else if b = 1 then some true else none

/-- A budget of 0 or above 4,096 is answered RANGE (R62, R85). -/
def budgetRefused (budget : Half) : Bool := budget.toNat == 0 || Config.maxBudget < budget.toNat

/-- A capacity is 0 or from 4 to 2,048 (R15). -/
def capacityAllowed (c : Nat) : Bool := c == 0 || (Config.minCapacity ≤ c && c ≤ Config.maxCapacity)

end Sys2Proof.Machine
end

