-- ==== Sys2Proof/Machine/Flags.lean ====
section
/-! DEFINITION. The answer statuses (R144), the flags of the Notification Unit, the flags layout and
the interrupt lines (R174 to R183). -/

namespace Sys2Proof.Machine

/-- The answer statuses (R144). -/
inductive Status
  | ok
  | badCheck
  | unknown
  | notAttached
  | already
  | range
  | queueFull
  | lanes
  | late
  | ahead
  | badSlot
  | noClaim
  | held
  | inUse
  | noRoom
  | tooSmall
  | enabled
  deriving DecidableEq, Repr

/-- The status byte (R144). -/
def Status.code : Status → Byte
  | .ok => 0x00
  | .badCheck => 0x01
  | .unknown => 0x02
  | .notAttached => 0x03
  | .already => 0x04
  | .range => 0x05
  | .queueFull => 0x06
  | .lanes => 0x07
  | .late => 0x08
  | .ahead => 0x09
  | .badSlot => 0x0A
  | .noClaim => 0x0B
  | .held => 0x0C
  | .inUse => 0x0D
  | .noRoom => 0x0E
  | .tooSmall => 0x0F
  | .enabled => 0x10

/-- LEVEL: the buffer holds at least as many items as the watermark (R175). -/
def MasterState.level (x : MasterState) : Bool := x.watermark ≤ x.items.length

/-- The five flags in the flags layout: LEVEL, CLOSED, REFUSED, PRESSURE, ENDED from bit 0 up (R183). -/
def MasterState.flags (x : MasterState) : BitVec 5 :=
  BitVec.ofBool x.ended ++ BitVec.ofBool x.pressure ++ BitVec.ofBool x.refused
    ++ BitVec.ofBool x.closed ++ BitVec.ofBool x.level

/-- The flags as an answer carries them; bits 7 to 5 read as 0 (R183). -/
def MasterState.flagsByte (x : MasterState) : Byte := x.flags.setWidth 8

/-- The mask as an answer carries it (R183). -/
def MasterState.maskByte (x : MasterState) : Byte := x.mask.setWidth 8

/-- INTn is asserted (driven low) while a flag is set and enabled (R177). -/
def MasterState.intAsserted (x : MasterState) : Bool := x.flags &&& x.mask != 0

/-- INTn of the part; released while RST is low (R177). -/
def State.intAsserted (s : State) (m : Master) : Bool := !s.resetHold && (s.master m).intAsserted

/-- Clears the latched flags named in a flag set; LEVEL's place and bits 7 to 5 are ignored (R179). -/
def MasterState.ackFlags (x : MasterState) (set : Byte) : MasterState :=
  { x with
    closed := x.closed && !set.getLsbD 1
    refused := x.refused && !set.getLsbD 2
    pressure := x.pressure && !set.getLsbD 3
    ended := x.ended && !set.getLsbD 4 }

/-- Clears every latched flag and the mask (R154, R181). -/
def MasterState.clearFlagsAndMask (x : MasterState) : MasterState :=
  { x with closed := false, refused := false, pressure := false, ended := false, mask := 0 }

/-- Sets PRESSURE when the master is attached and watches the lane (R34, R176). -/
def MasterState.raisePressure (l : LaneId) (x : MasterState) : MasterState :=
  match x.session with
  | some sess => if inSet sess.watchSet l then { x with pressure := true } else x
  | none => x

end Sys2Proof.Machine
end

