-- ==== Sys2Proof/Machine/Tags.lean ====
section
/-! DEFINITION. Tag arithmetic, the tag order, windows and offsets (chapter 1). -/

namespace Sys2Proof.Machine

/-- The age of a tag (R8). -/
def age (now t : Tag) : Nat := (now - t).toNat

/-- A tag is past or present when its age is below 2^23 (R8). -/
def pastOrPresent (now t : Tag) : Bool := age now t < Config.halfRange

/-- A tag is past when its age is from 1 to 2^23 - 1 (R8). -/
def isPast (now t : Tag) : Bool := 1 ≤ age now t && age now t < Config.halfRange

/-- A tag is ahead when it lies 1 to 65,535 ticks after now (R8). -/
def isAhead (now u : Tag) : Bool := 1 ≤ (u - now).toNat && (u - now).toNat ≤ Config.aheadLimit

/-- The order of tags; at exactly half the range the tag with the larger age is before the other (R9). -/
def tagBefore (now x y : Tag) : Bool :=
  let d := (y - x).toNat
  (1 ≤ d && d < Config.halfRange) || (d == Config.halfRange && age now y < age now x)

/-- The window start s of a request (R10). -/
def Request.start (r : Request) : Tag := r.trigger - r.pre.setWidth 24

/-- The window end e of a request (R10). -/
def Request.stop (r : Request) : Tag := r.trigger + r.post.setWidth 24

/-- A tag lies in the window of a request (R10). -/
def Request.inWindow (r : Request) (x : Tag) : Bool :=
  (x - r.start).toNat ≤ r.pre.toNat + r.post.toNat

/-- A tag lies before the window of a request (R10). -/
def Request.beforeWindow (r : Request) (x : Tag) : Bool :=
  !r.inWindow x && 1 ≤ (r.start - x).toNat && (r.start - x).toNat ≤ Config.halfRange

/-- The window has closed: its end is past (R11). -/
def Request.windowClosed (now : Tag) (r : Request) : Bool := isPast now r.stop

/-- The offset of a tag x from a trigger tag T (R12). -/
def offset (now x trigger : Tag) : Int :=
  if tagBefore now x trigger then -((trigger - x).toNat : Int) else ((x - trigger).toNat : Int)

/-- An offset as a LEAD or CORRUPT item carries it: -65,536 stands for everything at or before it
(R12, R113, R114). -/
def clampOffset (d : Int) : Int := max d (-65536)

/-- The key tag of a record (R17, R18). -/
def Record.key : Record → Tag
  | .sample k .. => k
  | .gap k .. => k

end Sys2Proof.Machine
end

