-- ==== Sys2Proof/Machine/Ops.lean ====
section
/-! DEFINITION. The operations that several commands and events share: protection of a lane,
readiness, the deciding of endings, admission, lane emptying, retirement and session end. -/

namespace Sys2Proof.Machine

/-! ### Changing one master, every master, one lane, every lane, every live slot -/

/-- Changes what the part holds for one master. -/
def State.onMaster (s : State) (m : Master) (f : MasterState → MasterState) : State :=
  s.setMaster m (f (s.master m))

/-- Changes every entry of a vector alike. -/
def changeAll {α : Type} {n : Nat} (f : α → α) (v : Vector α n) : Vector α n := ⟨⟨v.toList.map f⟩, by simp⟩

/-- Changes what the part holds for every master, each alike. -/
def State.onMasters (s : State) (f : MasterState → MasterState) : State :=
  { s with masters := changeAll f s.masters }

/-- Changes one lane. -/
def State.onLane (s : State) (l : LaneId) (f : Lane → Lane) : State := s.setLane l (f (s.lane l))

/-- Changes the lanes of a set, each alike. -/
def State.onLanes (s : State) (ls : LaneSet) (f : Lane → Lane) : State :=
  { s with lanes := ⟨⟨allLanes.map fun l => if inSet ls l then f (s.lane l) else s.lane l⟩, rfl⟩ }

/-- Changes the request of every slot that is not FREE. -/
def MasterState.onSlots (x : MasterState) (f : Request → Request) : MasterState :=
  { x with slots := changeAll (Option.map f) x.slots }

/-! ### The free pool, and lanes named by slots -/

/-- The record places not given to any lane (R15). -/
def State.freePool (s : State) : Nat :=
  Config.recordPlaces - (allLanes.map fun l => (s.lane l).capacity).sum

/-- A slot of the master that is not FREE names the lane (R81). -/
def MasterState.namesLane (x : MasterState) (l : LaneId) : Bool :=
  allSlots.any fun i => (x.slot i).any fun r => inSet r.lanes l

/-- A slot of any master that is not FREE names the lane (R81, R166). -/
def State.laneNamed (s : State) (l : LaneId) : Bool :=
  allMasters.any fun m => (s.master m).namesLane l

/-! ### Protection (R23, R24) -/

/-- A slot contributes to protection while it is WAITING or READY, or ACTIVE with no ending decided
(R23). -/
def Request.protects (r : Request) : Bool := r.state != .closing && r.ending.isNone

/-- The contribution of a slot to a lane: the age of its start if that is past, else 0 (R23). -/
def Request.contribution (now : Tag) (l : LaneId) (r : Request) : Option Nat :=
  if r.protects && inSet r.lanes l then some (if isPast now r.start then age now r.start else 0) else none

/-- The contribution of a master's session to a lane in its watch set: its horizon (R23). -/
def Session.contribution (l : LaneId) (x : Session) : Option Nat :=
  if inSet x.watchSet l then some x.horizon.toNat else none

/-- What one master contributes to a lane's protect age (R23). -/
def MasterState.contributions (now : Tag) (l : LaneId) (x : MasterState) : List Nat :=
  (x.session.bind (Session.contribution l)).toList
    ++ allSlots.filterMap fun i => (x.slot i).bind (Request.contribution now l)

/-- The protect age of a lane: the largest contribution, absent when there is none (R23). -/
def State.protectAge (s : State) (l : LaneId) : Option Nat :=
  (allMasters.flatMap fun m => (s.master m).contributions s.now l).max?

/-- The records of a lane that no rule protects are its oldest ones, those older than the anchor;
the anchor is the newest record whose age exceeds the protect age.  With no protect age every
record is unprotected (R24). -/
def unprotectedCount (now : Tag) : Option Nat → List Record → Nat
  | none, rs => rs.length
  | some p, rs => (rs.reverse.dropWhile fun r => age now r.key ≤ p).length - 1

/-! ### Readiness (R54, R68, R69) -/

/-- The Input Queue holds no frame in the window or before it: it is empty or its head's tag is after
the window (R54, R68). -/
def Request.queueClear (queue : List Frame) (r : Request) : Bool :=
  queue.head?.all fun f => !(r.inWindow f.tag || r.beforeWindow f.tag)

/-- The readiness test of one slot (R68, R69). -/
def Request.testReadiness (now : Tag) (queue : List Frame) (r : Request) : Request :=
  if r.state == .waiting && r.windowClosed now && r.queueClear queue then { r with state := .ready } else r

/-- The readiness test of every WAITING slot of every master (R68). -/
def State.testReadiness (s : State) : State :=
  s.onMasters fun x => x.onSlots (Request.testReadiness s.now s.queue)

/-! ### Endings (R72, R73, R76) -/

/-- Decides an ending for a slot that carries none: the ending is written, the resume point cleared,
and a WAITING or READY slot becomes CLOSING (R72, R73). -/
def Request.decideEnding (e : Ending) (r : Request) : Request :=
  match r.ending with
  | some _ => r
  | none =>
      { r with
        ending := some e
        resume := none
        state := if r.state = .active then .active else .closing }

/-- A slot expires when it is WAITING, READY or ACTIVE, carries no ending, and its start's age is the
expiry age (R76). -/
def Request.expiryDue (now : Tag) (r : Request) : Bool :=
  r.state != .closing && r.ending.isNone && age now r.start == Config.expiryAge

/-- The expiry of one slot, where it is due (R76). -/
def Request.expire (now : Tag) (r : Request) : Request :=
  if r.expiryDue now then r.decideEnding .expired else r

/-! ### Admission (R58, R59, R66, R67, R69) -/

/-- A request as its admission writes it (R67). -/
def Request.fresh (origin : Origin) (cls : ReqClass) (trigger : Tag) (pre post : Half) (lanes : LaneSet)
    (leadWanted : Bool) (budget : Nat) (label : Byte) : Request :=
  { state := .waiting, origin, cls, trigger, pre, post, lanes, leadWanted, budget, label,
    opened := false, itemsWritten := 0, resume := none, ending := none }

/-- The lowest-numbered FREE slot of a master (R66). -/
def MasterState.firstFree (x : MasterState) : Option SlotId := allSlots.find? fun i => (x.slot i).isNone

/-- The admission of a request into a slot: it joins the admission order at the newest end and is
tested for readiness at once (R59, R67, R69). -/
def State.enterSlot (s : State) (m : Master) (i : SlotId) (r : Request) : State :=
  s.onMaster m fun x =>
    { x.setSlot i (some (r.testReadiness s.now s.queue)) with order := x.order ++ [i] }

/-! ### Emptying and retirement (R35, R36, R39) -/

/-- The lane emptying operation (R39). -/
def Lane.emptied (x : Lane) : Lane := { x with records := [], openGap := none, lossMark := false }

/-- The oldest record of the lane has reached the retirement age (R35). -/
def Lane.recordDue (now : Tag) (x : Lane) : Bool :=
  x.records.head?.any fun r => age now r.key == Config.retirementAge

/-- The retirement of the record whose age is the retirement age, where the lane has one (R35). -/
def Lane.retireRecord (now : Tag) (x : Lane) : Lane :=
  if x.recordDue now then { x with records := x.records.tail } else x

/-- The open gap's first lost tag has reached the retirement age (R36). -/
def Lane.gapDue (now : Tag) (x : Lane) : Bool :=
  x.openGap.any fun g => age now g.firstLost == Config.retirementAge

/-- The retirement of the open gap, where it is due: the loss mark is set (R36). -/
def Lane.retireGap (now : Tag) (x : Lane) : Lane :=
  if x.gapDue now then { x with openGap := none, lossMark := true } else x

/-! ### Session end (R79, R93, R122, R132, R152, R161, R181) -/

/-- A READ ITEMS answer being shifted reads zero from a session end on; every other answer goes on
unchanged (R132, R142). -/
def FrameState.cutReadItems : FrameState → FrameState
  | .answering a => .answering (if a.ofReadItems then { a with cut := true } else a)
  | f => f

/-- The session end of a master, as far as its own state goes: DETACHED, slots FREE with no CLOSE,
template cleared, buffer emptied, CLOSED, REFUSED and PRESSURE cleared, ENDED set for reason LEASE
(R79, R93, R132, R152, R181). -/
def MasterState.endSession (why : EndReason) (x : MasterState) : MasterState :=
  { x with
    session := none
    lastEnd := why
    slots := Vector.replicate 8 none
    order := []
    template := none
    items := []
    reading := none
    frame := x.frame.cutReadItems
    closed := false
    refused := false
    pressure := false
    ended := x.ended || why == .lease }

/-- The session end of a master: besides the master's own state, the item in flight for it is
discarded and the engine becomes IDLE, and the claim is released if it holds it (R122, R152, R161).
Arbitration follows once every effect of the event is in place (R97, R187). -/
def State.sessionEnd (s : State) (m : Master) (why : EndReason) : State :=
  { s.onMaster m (MasterState.endSession why) with
    serving := if s.serving.any (fun v => v.master == m) then none else s.serving
    claim := if s.claim = some m then none else s.claim }

/-- The lease remaining of a master; 0 while DETACHED (R136). -/
def MasterState.leaseRemaining (x : MasterState) : Nat := (x.session.map Session.leaseRemaining).getD 0

/-- The port is attached (R145). -/
def MasterState.attached (x : MasterState) : Bool := x.session.isSome

/-- The lease countdown of one port at a tick arrival, with the expiry when it reaches 0 (R150). -/
def State.countLease (s : State) (m : Master) : State :=
  match (s.master m).session with
  | none => s
  | some sess =>
      if sess.leaseRemaining ≤ 1 then s.sessionEnd m .lease
      else s.onMaster m fun x =>
        { x with session := some { sess with leaseRemaining := sess.leaseRemaining - 1 } }

/-- The renewal of the lease of an attached port (R149). -/
def MasterState.renewLease (x : MasterState) : MasterState :=
  { x with session := x.session.map fun sess => { sess with leaseRemaining := sess.leaseLength } }

end Sys2Proof.Machine
end

