-- ==== Sys2Proof/Machine/Engine.lean ====
section
/-! DEFINITION. The extraction engine: eligibility and arbitration (section 6.2), the search for the
next item (6.5), the decisions at a selection and at an item boundary (6.3, 6.4), and ITEM_COMPLETION. -/

namespace Sys2Proof.Machine

/-! ### The search for the next item (R108 to R118) -/

/-- The CORRUPT item a record gives in place of its own (R113). -/
def corruptItem (now : Tag) (i : SlotId) (r : Request) (l : LaneId) : Record → Item
  | .sample k v .. => .corrupt i l false (clampOffset (offset now k r.trigger)) v
  | .gap k .. => .corrupt i l true (clampOffset (offset now k r.trigger)) 0

/-- The first offset of a GAP item: the offset of the first lost tag when it is in the window, -pre
when it is before the window (R115). -/
def gapOffset (now : Tag) (r : Request) (firstLost : Tag) : Int :=
  if r.inWindow firstLost then offset now firstLost r.trigger else -(r.pre.toNat : Int)

/-- The LEAD phase: what stands just before the window in the lane (R110, R113, R114).  DEDUCED (log 19): a gap
recorded while the slot was set aside, which R117 says is reported here, is decided by the table of R110 too, so
with no lead wanted one that ended before the window gives no item. -/
def leadPhase (now : Tag) (i : SlotId) (r : Request) (l : LaneId) (x : Lane) : Option Flight :=
  let after : Option Resume := some ⟨l, .records, none, true⟩
  match (x.records.filter fun c => r.beforeWindow c.key).getLast? with
  | none => none
  | some (.sample k v rs al ok) =>
      if r.leadWanted then
        some ⟨if ok then .lead i l (clampOffset (offset now k r.trigger)) v rs al
              else corruptItem now i r l (.sample k v rs al ok), after⟩
      else none
  | some (.gap k last n ok) =>
      if r.leadWanted || !r.beforeWindow last then
        some ⟨if ok then .gap i l (gapOffset now r k) n true false
              else corruptItem now i r l (.gap k last n ok), after⟩
      else none

/-- The item a record in the window gives (R111, R113, R114, R115). -/
def recordItem (now : Tag) (i : SlotId) (r : Request) (l : LaneId) (c : Record) : Item :=
  match c with
  | .sample k v rs al ok =>
      if ok then .sample i l (offset now k r.trigger) v rs al else corruptItem now i r l c
  | .gap k _ n ok =>
      if ok then .gap i l (gapOffset now r k) n false false else corruptItem now i r l c

/-- The RECORDS phase: the oldest record in the window, or after the last key tag emitted (R111). -/
def recordsPhase (now : Tag) (i : SlotId) (r : Request) (l : LaneId) (x : Lane) (lastKey : Option Tag) :
    Option Flight :=
  (x.records.find? fun c => r.inWindow c.key && lastKey.all fun k => tagBefore now k c.key).map fun c =>
    ⟨recordItem now i r l c, some ⟨l, .records, some c.key, true⟩⟩

/-- The FINISH phase reports the lane's open gap: its first lost tag is in the window or before it and
has not been passed (R112). -/
def finishReportsGap (now : Tag) (r : Request) (lastKey : Option Tag) (g : OpenGap) : Bool :=
  (r.inWindow g.firstLost || r.beforeWindow g.firstLost)
    && lastKey.all fun k => tagBefore now k g.firstLost

/-- The FINISH phase: the open gap, or EMPTY for a lane that has contributed nothing (R112, R115). -/
def finishPhase (now : Tag) (i : SlotId) (r : Request) (l : LaneId) (x : Lane) (lastKey : Option Tag)
    (contributed : Bool) : Option Flight :=
  match x.openGap.filter (finishReportsGap now r lastKey) with
  | some g =>
      some ⟨.gap i l (gapOffset now r g.firstLost) g.lostCount (r.beforeWindow g.firstLost) true,
        some ⟨l, .finish, some g.firstLost, true⟩⟩
  | none => if contributed then none else some ⟨.empty i l, some ⟨l, .finish, none, true⟩⟩

/-- The phases of one lane from a position in it: LEAD, RECORDS, FINISH (R109). -/
def searchLane (now : Tag) (i : SlotId) (r : Request) (x : Lane) (p : Resume) : Option Flight :=
  ((if p.phase = .lead then leadPhase now i r p.lane x else none).or
    (if p.phase = .finish then none else recordsPhase now i r p.lane x p.lastKey)).or
    (finishPhase now i r p.lane x p.lastKey p.contributed)

/-- The position at which a lane is entered (R108, R109). -/
def Resume.entry (l : LaneId) : Resume := ⟨l, .lead, none, false⟩

/-- The position the search starts at: the resume point (R109). -/
def Request.position (r : Request) : Resume := r.resume.getD (Resume.entry (lowestLane r.lanes))

/-- The search for the next item of a slot: the current lane from the resume point, then the lanes of
the set above it, each from its LEAD phase (R109). -/
def State.search (s : State) (i : SlotId) (r : Request) : Option Flight :=
  (searchLane s.now i r (s.lane r.position.lane) r.position).or
    (((lanesOf r.lanes).filter (r.position.lane < ·)).findSome? fun l =>
      searchLane s.now i r (s.lane l) (Resume.entry l))

/-! ### Starting an item (R100, R101, R104, R107, R108, R119) -/

/-- The OPEN of a request, with the resume point its completion sets (R108, R116). -/
def Request.openFlight (i : SlotId) (r : Request) : Flight :=
  ⟨.opened i r.origin r.cls r.leadWanted r.label r.trigger (lanesOf r.lanes).length,
    some (Resume.entry (lowestLane r.lanes))⟩

/-- The CLOSE of a request, carrying an ending and the items written (R119). -/
def Request.closeFlight (i : SlotId) (r : Request) (e : Ending) : Flight :=
  ⟨.close i r.label e r.itemsWritten, none⟩

/-- The engine serves a slot, ACTIVE, with an item in flight (R94, R100, R101). -/
def State.serve (s : State) (m : Master) (i : SlotId) (r : Request) (f : Flight) : State :=
  { s.onMaster m (fun x => x.setSlot i (some { r with state := .active })) with serving := some ⟨m, i, f⟩ }

/-- Decides COMPLETE or TRUNCATED for a slot that carries no ending and starts its CLOSE (R77, R107). -/
def State.finishRequest (s : State) (m : Master) (i : SlotId) (r : Request) (e : Ending) : State :=
  s.serve m i { r with ending := some e, resume := none } (r.closeFlight i e)

/-- Steps 4 to 6 of the decisions: COMPLETE when the search finds nothing, TRUNCATED when the budget is
spent with something left, else the item found (R103, R107). -/
def State.nextItem (s : State) (m : Master) (i : SlotId) (r : Request) : State :=
  match s.search i r with
  | none => s.finishRequest m i r .complete
  | some f => if r.itemsWritten = r.budget then s.finishRequest m i r .truncated else s.serve m i r f

/-! ### Arbitration (R96 to R98, R100) -/

/-- The buffer has room (R127). -/
def MasterState.hasRoom (x : MasterState) : Bool := x.items.length < Config.bufferDepth

/-- A slot in this class that is READY or CLOSING (R96). -/
def Request.selectable (c : ReqClass) (r : Request) : Bool :=
  r.cls == c && (r.state == .ready || r.state == .closing)

/-- Slot `i` of the master is eligible in class `c` (R96). -/
def MasterState.eligible (x : MasterState) (c : ReqClass) (i : SlotId) : Bool :=
  x.hasRoom && (x.slot i).any (Request.selectable c)

/-- The master's eligible slot of the class that stands earliest in its admission order (R98). -/
def MasterState.candidate (x : MasterState) (c : ReqClass) : Option SlotId := x.order.find? (x.eligible c)

/-- The masters in the order the rotation looks at them, starting after the pointer (R98). -/
def rotation (p : Master) : List Master := [p + 1, p + 2, p + 3, p]

/-- The slot arbitration grants in a class whose pointer is `p` (R98). -/
def State.pick (s : State) (c : ReqClass) (p : Master) : Option (Master × SlotId) :=
  (rotation p).findSome? fun m => ((s.master m).candidate c).map fun i => (m, i)

/-- Some URGENT slot of some master is eligible (R98, R106). -/
def State.urgentEligible (s : State) : Bool := (s.pick .urgent s.urgentPtr).isSome

/-- The first item of a service: the CLOSE of a slot that carries an ending, the OPEN of one not
opened, else what steps 4 to 6 of the decisions give (R100). -/
def State.select (s : State) (m : Master) (i : SlotId) : State :=
  match (s.master m).slot i with
  | none => s
  | some r =>
      match r.ending with
      | some e => s.serve m i r (r.closeFlight i e)
      | none => if r.opened then s.nextItem m i r else s.serve m i r (r.openFlight i)

/-- Arbitration: the IDLE engine selects an eligible slot by class, master rotation and admission
order, and the pointer of the class moves to the granted master (R97, R98). -/
def State.arbitrate (s : State) : State :=
  if s.resetHold || s.serving.isSome then s
  else
    match s.pick .urgent s.urgentPtr with
    | some (m, i) => { s with urgentPtr := m }.select m i
    | none =>
        match s.pick .normal s.normalPtr with
        | some (m, i) => { s with normalPtr := m }.select m i
        | none => s

/-! ### Item boundaries and item completion (R101, R103 to R107) -/

/-- The served slot is set aside: it takes another state, and the engine becomes IDLE and arbitrates
(R104, R105, R106). -/
def State.setAside (s : State) (m : Master) (i : SlotId) (r : Request) (st : SlotState) : State :=
  { s.onMaster m (fun x => x.setSlot i (some { r with state := st })) with serving := none }.arbitrate

/-- The decisions at an item boundary of the served slot, in the order of R103. -/
def State.boundary (s : State) (m : Master) (i : SlotId) (r : Request) : State :=
  match r.ending with
  | some e => if (s.master m).hasRoom then s.serve m i r (r.closeFlight i e) else s.setAside m i r .closing
  | none =>
      if !(s.master m).hasRoom then s.setAside m i r .ready
      else if r.cls == .normal && s.urgentEligible then s.setAside m i r .ready
      else s.nextItem m i r

/-- An item counts in items written unless it is OPEN or CLOSE (R60). -/
def Item.counted : Item → Bool
  | .opened .. => false
  | .close .. => false
  | .lead .. | .sample .. | .gap .. | .corrupt .. | .empty .. => true

/-- The item is an OPEN. -/
def Item.isOpen : Item → Bool
  | .opened .. => true
  | .lead .. | .sample .. | .gap .. | .corrupt .. | .empty .. | .close .. => false

/-- The item is a CLOSE. -/
def Item.isClose : Item → Bool
  | .close .. => true
  | .opened .. | .lead .. | .sample .. | .gap .. | .corrupt .. | .empty .. => false

/-- The lane whose corrupt counter an item raises (R113). -/
def Item.corruptLane : Item → Option LaneId
  | .corrupt _ l .. => some l
  | .opened .. | .lead .. | .sample .. | .gap .. | .empty .. | .close .. => none

/-- What the completion of an item other than CLOSE does to its slot (R60, R101, R116). -/
def Request.itemDone (f : Flight) (r : Request) : Request :=
  { r with
    opened := r.opened || f.item.isOpen
    itemsWritten := if f.item.counted then r.itemsWritten + 1 else r.itemsWritten
    resume := if r.ending.isSome then r.resume else f.after }

/-- A CORRUPT item raises the corrupt counter of its lane (R40, R113). -/
def State.countCorrupt (s : State) (it : Item) : State :=
  match it.corruptLane with
  | some l => s.onLane l fun x => { x with corrupt := bump x.corrupt }
  | none => s

/-- The slot of a CLOSE becomes FREE and leaves the admission order, and CLOSED is set (R78, R119). -/
def MasterState.freeSlot (i : SlotId) (x : MasterState) : MasterState :=
  { x.setSlot i none with order := x.order.erase i, closed := true }

/-- Item completion: the item in flight is appended to the served master's buffer; a CLOSE frees its
slot and the engine arbitrates; any other item updates the slot and is an item boundary (R101). -/
def State.completeItem (s : State) : State :=
  match s.serving with
  | none => s
  | some v =>
      let t := s.onMaster v.master fun x => { x with items := x.items ++ [v.flight.item] }
      if v.flight.item.isClose then
        { t.onMaster v.master (MasterState.freeSlot v.slot) with serving := none }.arbitrate
      else
        match (s.master v.master).slot v.slot with
        | none => { t with serving := none }.arbitrate
        | some r => (t.countCorrupt v.flight.item).boundary v.master v.slot (r.itemDone v.flight)

end Sys2Proof.Machine
end

