-- ==== Sys2Proof/Machine/Formats.lean ====
section
/-! DEFINITION. The byte layouts of answers and items (R184, R186). -/

namespace Sys2Proof.Machine

/-! ### Shared encodings of answer fields (R184) -/

/-- A yes-or-no byte. -/
def yesNoByte (b : Bool) : Byte := if b then 0x01 else 0x00

/-- A master that may be absent: 0x00 for NONE, otherwise bit 7 and the master in bits 1 and 0. -/
def masterByte : Option Master → Byte
  | none => 0x00
  | some m => 0x80 + BitVec.ofNat 8 m.val

/-- A count in one byte. -/
def byteOfNat (n : Nat) : Byte := BitVec.ofNat 8 n

/-- A count in a two-byte field. -/
def bytesOfCount (n : Nat) : List Byte := bytesOfHalf (BitVec.ofNat 16 n)

/-- A count in a three-byte field. -/
def bytesOfLong (n : Nat) : List Byte := bytesOfTag (BitVec.ofNat 24 n)

/-- A number of zero data bytes, the content of a refusal. -/
def zeroBytes (n : Nat) : List Byte := List.replicate n 0x00

/-- A slot state; FREE is a slot with no request. -/
def slotStateCode : Option SlotState → BitVec 3
  | none => 0
  | some .waiting => 1
  | some .ready => 2
  | some .active => 3
  | some .closing => 4

/-- The code of an ending. -/
def Ending.code : Ending → BitVec 2
  | .complete => 0
  | .truncated => 1
  | .cancelled => 2
  | .expired => 3

/-- An ending byte: 0x00 when absent, otherwise bit 7 and the code in bits 1 and 0. -/
def endingByte : Option Ending → Byte
  | none => 0x00
  | some e => (1 : BitVec 1) ++ (0 : BitVec 5) ++ e.code

/-- A last end reason. -/
def EndReason.byte : EndReason → Byte
  | .detach => 0x01
  | .lease => 0x02
  | .portReset => 0x03
  | .power => 0x04

/-- A last refusal reason. -/
def RefusalReason.byte : RefusalReason → Byte
  | .none => 0x00
  | .notAttached => 0x01
  | .noTemplate => 0x02
  | .queueFull => 0x03

/-- A tick source. -/
def TickSource.byte : TickSource → Byte
  | .external => 0x00
  | .divided => 0x01

/-- URGENT is 1 (R183, R184, R186). -/
def ReqClass.bit (c : ReqClass) : BitVec 1 := BitVec.ofBool (c == .urgent)

/-- CAPTURE is 1 (R184, R186). -/
def Origin.bit (o : Origin) : BitVec 1 := BitVec.ofBool (o == .capture)

/-- The phase code of a resume byte. -/
def Phase.code : Phase → BitVec 2
  | .lead => 0
  | .records => 1
  | .finish => 2

/-- The resume byte of QUERY SLOT: bit 7 when present, phase in bits 6 and 5, lane in bits 3 to 0. -/
def resumeByte : Option Resume → Byte
  | none => 0x00
  | some p => (1 : BitVec 1) ++ p.phase.code ++ (0 : BitVec 1) ++ BitVec.ofNat 4 p.lane.val

/-- The slot byte of QUERY SLOT: state in bits 2 to 0, class in bit 3, origin in bit 4, opened in bit 5. -/
def slotByte : Option Request → Byte
  | none => 0x00
  | some r =>
      (0 : BitVec 2) ++ BitVec.ofBool r.opened ++ r.origin.bit ++ r.cls.bit ++ slotStateCode (some r.state)

/-- The engine byte of READ DEVICE: 0x00 while IDLE; while SERVING bit 7, the master in bits 5 and 4
and the slot id in bits 2 to 0. -/
def engineByte : Option Serving → Byte
  | none => 0x00
  | some v =>
      (1 : BitVec 1) ++ (0 : BitVec 1) ++ BitVec.ofNat 2 v.master.val ++ (0 : BitVec 1) ++ BitVec.ofNat 3 v.slot.val

/-- The lane byte of READ LANE: enabled, oldest and newest key tag present, protect age present, open
gap present, loss mark, from bit 0 up. -/
def laneByte (x : Lane) (protectAge : Option Nat) : Byte :=
  (0 : BitVec 2) ++ BitVec.ofBool x.lossMark ++ BitVec.ofBool x.openGap.isSome ++ BitVec.ofBool protectAge.isSome
    ++ BitVec.ofBool (!x.records.isEmpty) ++ BitVec.ofBool (!x.records.isEmpty) ++ BitVec.ofBool x.enabled

/-! ### Items (R186) -/

/-- A signed offset in 17 bits, two's complement. -/
def offsetBits (d : Int) : BitVec 17 := BitVec.ofInt 17 d

/-- The kind code of an item. -/
def Item.kind : Item → BitVec 3
  | .opened .. => 1
  | .lead .. => 2
  | .sample .. => 3
  | .gap .. => 4
  | .corrupt .. => 5
  | .empty .. => 6
  | .close .. => 7

/-- The slot id every item carries. -/
def Item.slot : Item → SlotId
  | .opened i .. => i
  | .lead i .. => i
  | .sample i .. => i
  | .gap i .. => i
  | .corrupt i .. => i
  | .empty i _ => i
  | .close i .. => i

/-- Bits 41 to 0 of an item, by kind. -/
def Item.body : Item → BitVec 42
  | .opened _ o c w label t n =>
      BitVec.ofNat 4 (n - 1) ++ o.bit ++ c.bit ++ BitVec.ofBool w ++ (0 : BitVec 3) ++ label ++ t
  | .lead _ l d v rs al =>
      BitVec.ofNat 4 l.val ++ BitVec.ofBool rs ++ BitVec.ofBool al ++ offsetBits d ++ (0 : BitVec 3) ++ v
  | .sample _ l d v rs al =>
      BitVec.ofNat 4 l.val ++ BitVec.ofBool rs ++ BitVec.ofBool al ++ offsetBits d ++ (0 : BitVec 3) ++ v
  | .gap _ l d n bb op =>
      BitVec.ofNat 4 l.val ++ BitVec.ofBool bb ++ BitVec.ofBool op ++ offsetBits d ++ (0 : BitVec 3) ++ n
  | .corrupt _ l g d v =>
      BitVec.ofNat 4 l.val ++ BitVec.ofBool g ++ (0 : BitVec 1) ++ offsetBits d ++ (0 : BitVec 3) ++ v
  | .empty _ l => BitVec.ofNat 4 l.val ++ (0 : BitVec 38)
  | .close _ label e n =>
      (0 : BitVec 4) ++ (0 : BitVec 2) ++ e.code ++ (0 : BitVec 2) ++ label ++ (0 : BitVec 11) ++ BitVec.ofNat 13 n

/-- An item as one 48-bit word. -/
def Item.word (it : Item) : BitVec 48 := it.kind ++ BitVec.ofNat 3 it.slot.val ++ it.body

/-- The six bytes of an item, the first carrying bits 47 to 40. -/
def Item.bytes (it : Item) : List Byte :=
  [it.word.extractLsb' 40 8, it.word.extractLsb' 32 8, it.word.extractLsb' 24 8,
   it.word.extractLsb' 16 8, it.word.extractLsb' 8 8, it.word.extractLsb' 0 8]

end Sys2Proof.Machine
end

