-- ==== Sys2Proof/WellFormed.lean ====
section
/-! DEFINITION. Which operands a row admits. The fields of a command frame may carry any bytes (the
command itself refuses what lies outside its range, R182), so only the two rows that carry a raw
frame have anything to check. -/

namespace Sys2Proof

/-- A frame of the length its code gives (R138). -/
def wellSizedFrame (frame : List Byte) : Bool :=
  match frame with
  | [] => false
  | code :: _ => frame.length == frameLength code

/-- A whole frame whose bytes do not sum to 0 modulo 256 (R139). -/
def badCheckFrameForm (frame : List Byte) : Bool :=
  wellSizedFrame frame && byteSum frame != 0

/-- BAD_CHECK_FRAME carries a whole frame with a bad sum; UNKNOWN_CODE_FRAME carries a code that
names no command (R139, R140). Every other row admits every value of its operands. -/
def Instr.wellFormed : Instr → Bool
  | .badCheckFrame _ frame => badCheckFrameForm frame
  | .unknownCodeFrame _ code => !knownCode code
  | .attach .. | .detach .. | .keep .. | .resetPort .. | .readDevice .. | .submitWindow .. | .cancel ..
  | .querySlot .. | .setTemplate .. | .clearTemplate .. | .readItems .. | .setWatermark .. | .readLane ..
  | .readFlags .. | .ackFlags .. | .setMask .. | .claim .. | .release .. | .laneSetup .. | .partition ..
  | .purgeLanes .. | .setTickSource .. | .clearCounters .. | .testCheck .. | .selectionBegin ..
  | .selectionEnd .. | .itemRemoval .. | .tickArrival | .dividerExpiry | .leaseExpiry .. | .requestExpiry ..
  | .recordRetirement .. | .openGapRetirement .. | .captureEdge .. | .sampleFrameArrival ..
  | .partialFrameDiscard .. | .storeCompletion | .itemCompletion | .powerOnReset | .frameStart ..
  | .linkBitSampled .. | .byteReceived .. | .answerByteShifted .. | .rstRelease | .tickLevelChange ..
  | .capFallingEdge .. => true

end Sys2Proof
end

