-- ==== Sys2Proof/Machine/Ports.lean ====
section
/-! DEFINITION. The port layer: how an answer is composed and shifted, when a frame is taken, and the
events of a selection (chapter 8, and R128 to R132 for READ ITEMS). -/

namespace Sys2Proof.Machine

/-! ### Answers -/

/-- What a command answers: its status, its data bytes, and for an accepted READ ITEMS the number of
groups that follow; `ofReadItems` marks every answer to READ ITEMS (R142, R184). -/
structure Reply where
  status : Status
  data : List Byte
  groups : Nat := 0
  ofReadItems : Bool := false
  deriving DecidableEq, Repr

/-- An answer OK with its data bytes. -/
def Reply.ok (data : List Byte) : Reply := { status := .ok, data }

/-- A refusal whose data bytes, as many as the command has, are zero (R142, R184). -/
def Reply.refuse (status : Status) (dataBytes : Nat) : Reply := { status, data := zeroBytes dataBytes }

/-- The answer composed at the taking, nothing of it shifted (R142). -/
def Reply.answer (r : Reply) : Answer :=
  { head := r.status.code :: r.data, groups := r.groups, ofReadItems := r.ofReadItems, cut := false, shifted := 0 }

/-- The number of bytes of an answer (R142, R128). -/
def Answer.length (a : Answer) : Nat := a.head.length + 6 * a.groups

/-- The next byte of an answer: of the bytes composed at the taking, or of the six bytes of the oldest
item; 0x00 once the answer has been cut by a session end (R129, R132, R142). -/
def Answer.nextByte (a : Answer) (items : List Item) : Byte :=
  if a.cut then 0
  else match a.head[a.shifted]? with
    | some b => b
    | none =>
        match items.head? with
        | some it => it.bytes.getD ((a.shifted - a.head.length) % 6) 0
        | none => 0

/-- The next byte is the sixth of a group (R129). -/
def Answer.endsGroup (a : Answer) : Bool :=
  !a.cut && a.head.length ≤ a.shifted && (a.shifted - a.head.length) % 6 == 5

/-- The port after the next byte of an answer: TRAILING after the last one (R142). -/
def Answer.advance (a : Answer) : FrameState :=
  if a.shifted + 1 < a.length then .answering { a with shifted := a.shifted + 1 } else .trailing

/-- The item at the oldest end leaves the buffer, and the answer in progress counts it (R129). -/
def MasterState.removeOldest (x : MasterState) : MasterState :=
  { x with
    items := x.items.tail
    reading := x.reading.map fun p => { p with removed := p.removed + 1 } }

/-- The next byte of an answer is shifted out; a removed item may lead to an arbitration, and after
the last byte the answer in progress is absent (R129, R130, R142). -/
def State.shiftByte (s : State) (m : Master) (a : Answer) : State :=
  let t := s.onMaster m fun x =>
    { (if a.endsGroup then x.removeOldest else x) with
      frame := a.advance
      sdo := some (a.nextByte x.items)
      reading := if a.shifted + 1 < a.length then (if a.endsGroup then x.removeOldest else x).reading else none }
  if a.endsGroup then t.arbitrate else t

/-- A byte is clocked out of a port: the next one of its answer, 0x00 while a frame is received or
after the answer, nothing while the port is not selected (R138, R142). -/
def State.clockByteOut (s : State) (m : Master) : State :=
  match (s.master m).frame with
  | .answering a => s.shiftByte m a
  | .receiving _ | .trailing => s.onMaster m fun x => { x with sdo := some 0 }
  | .deselected => s

/-- The groups of an answer shifted out whole. -/
def Answer.groupsDone (a : Answer) : Nat := (a.shifted - a.head.length) / 6

/-- The rest of the current group is shifted out, its sixth byte included, so that its item leaves the
buffer; nothing where no group of a READ ITEMS answer is left to shift (R129). -/
def State.finishGroup (s : State) (m : Master) : State :=
  match (s.master m).frame with
  | .answering a =>
      if !a.cut && a.groupsDone < a.groups then
        s.shiftByte m { a with shifted := a.head.length + 6 * a.groupsDone + 5 }
      else s
  | .receiving _ | .trailing | .deselected => s

/-! ### The taking of a frame (R139, R140, R142, R149) -/

/-- The port moves to ANSWERING with the answer composed at the taking (R139, R142). -/
def State.answer (s : State) (m : Master) (r : Reply) : State :=
  s.onMaster m fun x => { x with frame := .answering r.answer, sdo := some 0 }

/-- The taking of a frame with a good check: the lease of an attached sender is renewed, the command
judged and carried out, and its answer composed (R139, R149). -/
def State.taken (s : State) (m : Master) (effect : State → State × Reply) : State :=
  let r := effect (s.onMaster m MasterState.renewLease)
  r.1.answer m r.2

/-- The taking of a frame whose bytes do not sum to 0: counted, answered BAD_CHECK, no other effect
(R139). -/
def State.takenBad (s : State) (m : Master) : State :=
  (s.onMaster m fun x => { x with badChecks := bump x.badChecks }).answer m { status := .badCheck, data := [] }

/-- The taking of a frame of an unknown code: answered UNKNOWN; it renews the lease (R140). -/
def State.takenUnknown (s : State) (m : Master) : State :=
  s.taken m fun t => (t, { status := .unknown, data := [] })

/-- A frame can still be received whole on the port: RST is released, the port is RECEIVING, and the
bytes received so far begin the frame without completing it.  The bytes before the check byte have no
effect on any block (R138), so the rest of them are taken to arrive with it. -/
def State.canTake (s : State) (m : Master) (frame : List Byte) : Bool :=
  !s.resetHold &&
    match (s.master m).frame with
    | .receiving got => got.isPrefixOf frame && got.length < frame.length
    | .answering _ | .trailing | .deselected => false

/-! ### Selections (R131, R137, R141) -/

/-- A falling edge of SELn; it can be seen only while the port is not selected (R137). -/
def State.beginSelection (s : State) (m : Master) : State :=
  match (s.master m).frame with
  | .deselected => s.onMaster m fun x => { x with frame := .receiving [], sdo := some 0 }
  | .receiving _ | .answering _ | .trailing => s

/-- A rising edge of SELn: the port is DESELECTED, a frame cut short after a whole byte is counted, and
a READ ITEMS answer in progress ends with its remaining items left in the buffer (R131, R137, R141). -/
def State.endSelection (s : State) (m : Master) : State :=
  s.onMaster m fun x =>
    { x with
      frame := .deselected
      sdo := none
      reading := none
      frameErrors :=
        match x.frame with
        | .receiving (_ :: _) => bump x.frameErrors
        | .receiving [] | .answering _ | .trailing | .deselected => x.frameErrors }

end Sys2Proof.Machine
end

