-- ==== Sys2Proof/Machine/TimeBase.lean ====
section
/-! DEFINITION. The Time Base and the reactions to a tick arrival (chapter 1, R35, R36, R68, R76,
R150, R187): TICK_ARRIVAL, TICK_LEVEL_CHANGE, DIVIDER_EXPIRY, and the four reactions as rows of their
own. -/

namespace Sys2Proof.Machine

/-- While RST is low every input is ignored: no byte, edge, bit or tick is taken, no item is written and
no frame stored (scope; R7, R57, R80, R88, R123, R133, R137). -/
def State.unlessHeld (s : State) (f : State → State) : State := if s.resetHold then s else f s

/-- The retirement reactions of every lane (R35, R36). -/
def State.retire (s : State) : State :=
  { s with lanes := changeAll (fun x => (x.retireRecord s.now).retireGap s.now) s.lanes }

/-- The expiry of every slot for which it is due (R76). -/
def State.expireRequests (s : State) : State :=
  s.onMasters fun x => x.onSlots (Request.expire s.now)

/-- The lease countdown of every port, with the expiries it brings (R150). -/
def State.countLeases (s : State) : State := allMasters.foldl State.countLease s

/-- One tick arrival: *now* advances by one, every block reacts to it once, and the engine arbitrates
on the slots as they stand after every reaction (R1, R2, R97, R187). -/
def State.tick (s : State) : State :=
  ({ s with now := s.now + 1 } : State).retire.testReadiness.expireRequests.countLeases.arbitrate

/-- A level seen on TICK becomes the last TICK level; a high one after a low one is a tick arrival under
the EXTERNAL source and is discarded under the DIVIDED source (R3). -/
def State.seeTick (s : State) (level : Level) : State :=
  let t := { s with tickLevel := level }
  if s.tickSource = .external ∧ s.tickLevel = .low ∧ level = .high then t.tick else t

/-- The next device-clock period brings the divider count to the divisor: the source is DIVIDED and the count
stands at D - 1 (R4). -/
def State.dividerDue (s : State) : Bool := s.tickSource == .divided && s.divisor ≤ s.dividerCount + 1

/-- The divider count reaches the divisor, where the present period is the one that brings it there: it returns
to 0 and a tick arrives (R4).  A count that has further to go, one restarted by the taking of SET TICK SOURCE
among them, does not reach it (R5, R6), and under the EXTERNAL source the count does not advance (R3). -/
def State.dividerReachesDivisor (s : State) : State :=
  if s.dividerDue then ({ s with dividerCount := 0 } : State).tick else s

/-- One device-clock period with no other event in it: under the DIVIDED source the divider count
advances, and a tick arrives when it reaches the divisor (R4). -/
def State.clockPeriod (s : State) : State :=
  match s.tickSource with
  | .divided =>
      if s.dividerCount + 1 < s.divisor then { s with dividerCount := s.dividerCount + 1 }
      else s.dividerReachesDivisor
  | .external => s

/-- What a step does with no command waiting: one device-clock period passes; while RST is low nothing
happens (R4, R7). -/
def State.idle (s : State) : State := s.unlessHeld State.clockPeriod

/-- TICK_ARRIVAL: a high level is seen on TICK (R1, R3). -/
def execTickArrival (s : State) : Host.Outcome State Fault Refusal :=
  .next (s.unlessHeld fun t => t.seeTick .high)

/-- TICK_LEVEL_CHANGE: a level is seen on TICK (R3). -/
def execTickLevelChange (level : Level) (s : State) : Host.Outcome State Fault Refusal :=
  .next (s.unlessHeld fun t => t.seeTick level)

/-- DIVIDER_EXPIRY: the period in which the divider count reaches D; an expiry that is not due is none (R4, R6). -/
def execDividerExpiry (s : State) : Host.Outcome State Fault Refusal :=
  .next (s.unlessHeld State.dividerReachesDivisor)

/-- LEASE_EXPIRY: the countdown of a lease brings it to 0 and the session ends with reason LEASE; a lease
with more ticks left has not expired (R150). -/
def execLeaseExpiry (m : Master) (s : State) : Host.Outcome State Fault Refusal :=
  .next (s.unlessHeld fun t =>
    if (t.master m).attached && (t.master m).leaseRemaining ≤ 1 then (t.sessionEnd m .lease).arbitrate else t)

/-- REQUEST_EXPIRY: a live slot with no ending whose start's age is 2^22 expires (R76). -/
def execRequestExpiry (m : Master) (i : SlotId) (s : State) : Host.Outcome State Fault Refusal :=
  .next (s.unlessHeld fun t =>
    match (t.master m).slot i with
    | some r =>
        if r.expiryDue t.now then (t.onMaster m fun x => x.setSlot i (some (r.expire t.now))).arbitrate else t
    | none => t)

/-- RECORD_RETIREMENT: the oldest record of the lane leaves it when its key tag's age is 2^23 (R35). -/
def execRecordRetirement (l : LaneId) (s : State) : Host.Outcome State Fault Refusal :=
  .next (s.unlessHeld fun t => t.onLane l (Lane.retireRecord t.now))

/-- OPEN_GAP_RETIREMENT: the open gap becomes absent and sets the loss mark when its first lost tag's
age is 2^23 (R36). -/
def execOpenGapRetirement (l : LaneId) (s : State) : Host.Outcome State Fault Refusal :=
  .next (s.unlessHeld fun t => t.onLane l (Lane.retireGap t.now))

end Sys2Proof.Machine
end

