-- ==== Sys2Proof/Machine/Link.lean ====
section
/-! DEFINITION. The Acquisition Receiver (chapter 3, R185): the edges of QCLK, and the arrival of a
sample frame. -/

namespace Sys2Proof.Machine

/-! ### The sample frame (R185) -/

/-- The 22 bits of a frame in the order they are sent, bit 1 first. -/
def bitsOfFrame (f : BitVec 22) : List Bool := (List.range 22).map f.getMsbD

/-- The frame that bits make, the first of them the most significant. -/
def frameOfBits (bits : List Bool) : BitVec 22 :=
  bits.foldl (fun f b => f <<< 1 ||| (BitVec.ofBool b).setWidth 22) 0

/-- The lane field, bits 1 to 4. -/
def frameLane (f : BitVec 22) : LaneId := (f.extractLsb' 18 4).toFin

/-- The value field, bits 5 to 20. -/
def frameValue (f : BitVec 22) : Half := f.extractLsb' 2 16

/-- The force bit, bit 21. -/
def frameForce (f : BitVec 22) : Bool := f.getLsbD 1

/-- A good frame holds an odd number of ones (R48). -/
def frameOddParity (f : BitVec 22) : Bool := (bitsOfFrame f).foldl Bool.xor false

/-! ### Arrival (R47 to R51) -/

/-- The arrival of a frame: parity, then the lane's enabled state, then room in the queue; a frame that
passes all three is stamped with *now* and joins the tail (R47 to R51, R55). -/
def State.frameArrives (s : State) (f : BitVec 22) : State :=
  if !frameOddParity f then { s with parityErrors := bump s.parityErrors }
  else if !(s.lane (frameLane f)).enabled then { s with disabledDiscards := bump s.disabledDiscards }
  else if Config.queueDepth ≤ s.queue.length then
    { s.onLane (frameLane f) (fun x => { x with lossMark := true }) with queueOverflows := bump s.queueOverflows }
  else
    { s with queue := s.queue ++ [⟨frameLane f, frameValue f, frameForce f, s.now⟩] }

/-! ### QCLK edges (R44 to R46) -/

/-- A rising edge of QCLK with the levels sampled at it.  A sync edge starts a frame, cutting short one
being assembled; another edge adds its bit while ASSEMBLING, and the 22nd bit completes the frame
(R44, R45, R46). -/
def State.qclkEdge (s : State) (qsyn : Level) (qdat : Bool) : State :=
  let t := { s with qsynLevel := qsyn }
  if s.qsynLevel = .low ∧ qsyn = .high then
    match s.assembly with
    | .idle => { t with assembly := .assembling [qdat] }
    | .assembling _ => { t with assembly := .assembling [qdat], framingErrors := bump s.framingErrors }
  else
    match s.assembly with
    | .idle => t
    | .assembling bits =>
        if bits.length + 1 < Config.frameBits then { t with assembly := .assembling (bits ++ [qdat]) }
        else ({ t with assembly := .idle } : State).frameArrives (frameOfBits (bits ++ [qdat]))

/-- The remaining edges of a frame can come: the bits assembled so far begin it and no edge need be a
sync edge, or the receiver is IDLE and the first edge is a sync edge (R44, R45). -/
def State.canComplete (s : State) (qsyn : Level) (f : BitVec 22) : Bool :=
  match s.assembly with
  | .idle => s.qsynLevel == .low
  | .assembling got =>
      got.isPrefixOf (bitsOfFrame f) && got.length < Config.frameBits && !(s.qsynLevel == .low && qsyn == .high)

/-- FRAME_START: a QCLK edge with QSYN high (R44). -/
def execFrameStart (qdat : Bool) (s : State) : Host.Outcome State Fault Refusal :=
  .next (s.unlessHeld fun t => t.qclkEdge .high qdat)

/-- LINK_BIT_SAMPLED: a QCLK edge with the levels sampled at it (R45). -/
def execLinkBitSampled (qsyn : Level) (qdat : Bool) (s : State) : Host.Outcome State Fault Refusal :=
  .next (s.unlessHeld fun t => t.qclkEdge qsyn qdat)

/-- PARTIAL_FRAME_DISCARD: a QCLK edge with QSYN high; it cuts a partial frame short when it is a sync
edge (R46). -/
def execPartialFrameDiscard (qdat : Bool) (s : State) : Host.Outcome State Fault Refusal :=
  .next (s.unlessHeld fun t => t.qclkEdge .high qdat)

/-- SAMPLE_FRAME_ARRIVAL: the remaining edges of a frame come, the last with QSYN at `qsyn`, and the
frame arrives at its 22nd bit (R45, R47). -/
def execSampleFrameArrival (qsyn : Level) (f : BitVec 22) (s : State) : Host.Outcome State Fault Refusal :=
  .next (s.unlessHeld fun t =>
    if t.canComplete qsyn f then ({ t with assembly := .idle, qsynLevel := qsyn } : State).frameArrives f else t)

end Sys2Proof.Machine
end

