-- ==== Sys2Proof/Machine/Buffers.lean ====
section
/-! DEFINITION. READ ITEMS, SET WATERMARK (chapter 7) and the flag commands READ FLAGS, ACK FLAGS and
SET MASK (chapter 10). -/

namespace Sys2Proof.Machine

/-- A refused READ ITEMS: its status and a count byte of zero (R128, R184). -/
def Reply.refuseRead (status : Status) : Reply := { status, data := [0], ofReadItems := true }

/-- READ ITEMS: NOT_ATTACHED, RANGE, else the count is fixed and the answer in progress begins (R128). -/
def takeReadItems (m : Master) (largest : Byte) (s : State) : State × Reply :=
  if !(s.master m).attached then (s, .refuseRead .notAttached)
  else if largest.toNat = 0 ∨ Config.maxReadItems < largest.toNat then (s, .refuseRead .range)
  else
    let n := min largest.toNat (s.master m).items.length
    (s.onMaster m fun x => { x with reading := some ⟨n, 0⟩ },
      { status := .ok, data := [byteOfNat n], groups := n, ofReadItems := true })

/-- SET WATERMARK: 1 to 128, else RANGE (R134). -/
def takeSetWatermark (m : Master) (watermark : Byte) (s : State) : State × Reply :=
  if watermark.toNat = 0 ∨ Config.bufferDepth < watermark.toNat then (s, .refuse .range 1)
  else (s.onMaster m fun x => { x with watermark := watermark.toNat }, .ok [watermark])

/-- The data bytes of READ FLAGS (R178, R184). -/
def MasterState.flagsReport (x : MasterState) : List Byte :=
  [x.flagsByte, x.maskByte, byteOfNat x.items.length, byteOfNat x.watermark, x.lastEnd.byte]
    ++ bytesOfHalf x.refusals ++ [x.lastRefusal.byte]

/-- READ FLAGS: reports and clears nothing (R178). -/
def takeReadFlags (m : Master) (s : State) : State × Reply := (s, .ok (s.master m).flagsReport)

/-- ACK FLAGS: clears the latched flags named and answers the flags that remain (R179). -/
def takeAckFlags (m : Master) (flags : Byte) (s : State) : State × Reply :=
  (s.onMaster m fun x => x.ackFlags flags, .ok [((s.master m).ackFlags flags).flagsByte])

/-- SET MASK: the five enables take the byte's five flag positions (R180). -/
def takeSetMask (m : Master) (mask : Byte) (s : State) : State × Reply :=
  (s.onMaster m fun x => { x with mask := mask.setWidth 5 }, .ok [(mask.setWidth 5).setWidth 8])

end Sys2Proof.Machine
end

