-- ==== Sys2Proof/Machine/Capture.lean ====
section
/-! DEFINITION. Capture templates and the edges of the capture lines (chapter 5). -/

namespace Sys2Proof.Machine

/-- SET TEMPLATE: NOT_ATTACHED, RANGE for the budget, LANES, RANGE for lag + pre, then stored (R85). -/
def takeSetTemplate (m : Master) (lag pre post : Half) (lanes : LaneSet) (control : Byte) (budget : Half)
    (label : Byte) (s : State) : State × Reply :=
  match (s.master m).session with
  | none => (s, .refuse .notAttached 0)
  | some sess =>
      if budgetRefused budget then (s, .refuse .range 0)
      else if lanesRefused lanes sess.watchSet then (s, .refuse .lanes 0)
      else if sess.horizon.toNat < lag.toNat + pre.toNat then (s, .refuse .range 0)
      else
        (s.onMaster m fun x =>
          { x with
            template := some ⟨lag, pre, post, lanes, classOf control, leadWantedOf control, budget.toNat, label⟩ },
          .ok [])

/-- CLEAR TEMPLATE: reports whether one was present (R86). -/
def takeClearTemplate (m : Master) (s : State) : State × Reply :=
  if !(s.master m).attached then (s, .refuse .notAttached 1)
  else
    (s.onMaster m fun x => { x with template := none }, .ok [yesNoByte (s.master m).template.isSome])

/-- The refusal of an edge: counted, its reason kept, REFUSED set (R91). -/
def MasterState.refuseEdge (why : RefusalReason) (x : MasterState) : MasterState :=
  { x with refusals := bump x.refusals, lastRefusal := why, refused := true }

/-- The request a template makes at an edge: its trigger tag lies lag ticks before *now* (R89). -/
def Template.request (now : Tag) (t : Template) : Request :=
  Request.fresh .capture t.cls (now - t.lag.setWidth 24) t.pre t.post t.lanes t.leadWanted t.budget t.label

/-- The arrival of an edge on CAPm, settled by the first condition that applies (R89, R91). -/
def State.captureArrives (s : State) (m : Master) : State :=
  let x := s.master m
  if !x.attached then s.onMaster m (MasterState.refuseEdge .notAttached)
  else match x.template with
    | none => s.onMaster m (MasterState.refuseEdge .noTemplate)
    | some t =>
        match x.firstFree with
        | none => s.onMaster m (MasterState.refuseEdge .queueFull)
        | some i => (s.enterSlot m i (t.request s.now)).arbitrate

/-- A level seen on CAPm becomes the last CAP level; a high one after a low one is the arrival of an edge
(R88). -/
def State.seeCap (s : State) (m : Master) (level : Level) : State :=
  let t := s.onMaster m fun x => { x with capLevel := level }
  if (s.master m).capLevel = .low ∧ level = .high then t.captureArrives m else t

/-- CAPTURE_EDGE: a high level is seen on CAPm (R88, R89). -/
def execCaptureEdge (m : Master) (s : State) : Host.Outcome State Fault Refusal :=
  .next (s.unlessHeld fun t => t.seeCap m .high)

/-- CAP_FALLING_EDGE: a low level is seen on CAPm (R88). -/
def execCapFallingEdge (m : Master) (s : State) : Host.Outcome State Fault Refusal :=
  .next (s.unlessHeld fun t => t.seeCap m .low)

end Sys2Proof.Machine
end

