-- ==== Sys2Proof/Machine/Claim.lean ====
section
/-! DEFINITION. The configuration claim and the commands that need it (chapter 9). -/

namespace Sys2Proof.Machine

/-- CLAIM: NOT_ATTACHED, HELD, else the sender holds the claim; the answer names the holder (R159). -/
def takeClaim (m : Master) (s : State) : State × Reply :=
  if !(s.master m).attached then (s, .refuse .notAttached 1)
  else match s.claim with
    | none => ({ s with claim := some m }, .ok [masterByte (some m)])
    | some h =>
        if h = m then (s, .ok [masterByte (some m)])
        else (s, { status := .held, data := [masterByte (some h)] })

/-- RELEASE: NOT_ATTACHED, NO_CLAIM, else the holder becomes NONE (R160). -/
def takeRelease (m : Master) (s : State) : State × Reply :=
  if !(s.master m).attached then (s, .refuse .notAttached 0)
  else if s.claim = some m then ({ s with claim := none }, .ok [])
  else (s, .refuse .noClaim 0)

/-- The first two checks of a claim-only command: the attach state, then the claim (R163). -/
def State.claimRefusal (s : State) (m : Master) : Option Status :=
  if !(s.master m).attached then some .notAttached
  else if s.claim = some m then none
  else some .noClaim

/-- A claim-only command: the common checks, then its own (R163). -/
def State.underClaim (s : State) (m : Master) (dataBytes : Nat) (own : State × Reply) : State × Reply :=
  match s.claimRefusal m with
  | some st => (s, .refuse st dataBytes)
  | none => own

/-- LANE SETUP: RANGE, TOO_SMALL, else the three settings are stored (R165). -/
def takeLaneSetup (m : Master) (lane enable : Byte) (deadband keepalive : Half) (s : State) : State × Reply :=
  s.underClaim m 0 <|
    match laneOf? lane with
    | none => (s, .refuse .range 0)
    | some l =>
        if enableOf enable && (s.lane l).capacity < Config.minCapacity then (s, .refuse .tooSmall 0)
        else
          (s.onLane l fun x => { x with enabled := enableOf enable, deadband := deadband, keepalive := keepalive },
            .ok [])

/-- PARTITION: RANGE, ENABLED, IN_USE, NO_ROOM (which carries the pool), else the lane is emptied and takes
its new capacity (R167, R168). -/
def takePartition (m : Master) (lane : Byte) (capacity : Half) (s : State) : State × Reply :=
  s.underClaim m 2 <|
    match laneOf? lane with
    | none => (s, .refuse .range 2)
    | some l =>
        if !capacityAllowed capacity.toNat then (s, .refuse .range 2)
        else if (s.lane l).enabled then (s, .refuse .enabled 2)
        else if s.laneNamed l then (s, .refuse .inUse 2)
        else if (s.lane l).capacity + s.freePool < capacity.toNat then
          (s, { status := .noRoom, data := bytesOfCount s.freePool })
        else
          let t := s.onLane l fun x => { x.emptied with capacity := capacity.toNat }
          (t, .ok (bytesOfCount t.freePool))

/-- PURGE LANES: IN_USE when any lane of the set is named, else every lane of the set is emptied (R169). -/
def takePurgeLanes (m : Master) (lanes : LaneSet) (s : State) : State × Reply :=
  s.underClaim m 0 <|
    if (lanesOf lanes).any s.laneNamed then (s, .refuse .inUse 0)
    else (s.onLanes lanes Lane.emptied, .ok [])

/-- SET TICK SOURCE: RANGE, else the source and divisor are stored and the divider count restarts (R5,
R170). -/
def takeSetTickSource (m : Master) (source : Byte) (divisor : Half) (s : State) : State × Reply :=
  s.underClaim m 0 <|
    match sourceOf? source with
    | none => (s, .refuse .range 0)
    | some src => ({ s with tickSource := src, divisor := divisorOf divisor, dividerCount := 0 }, .ok [])

/-- The five counters of a lane become 0 (R40, R171). -/
def Lane.clearCounters (x : Lane) : Lane :=
  { x with stored := 0, suppressed := 0, lost := 0, restated := 0, corrupt := 0 }

/-- The four device link counters become 0 (R56). -/
def State.clearLinkCounters (s : State) : State :=
  { s with framingErrors := 0, parityErrors := 0, disabledDiscards := 0, queueOverflows := 0 }

/-- CLEAR COUNTERS: RANGE for the second byte, else the counters of the set are cleared, and the device's
when asked (R56, R171). -/
def takeClearCounters (m : Master) (lanes : LaneSet) (device : Byte) (s : State) : State × Reply :=
  s.underClaim m 0 <|
    match yesNoOf? device with
    | none => (s, .refuse .range 0)
    | some too =>
        let t := s.onLanes lanes Lane.clearCounters
        (if too then t.clearLinkCounters else t, .ok [])

/-- TEST CHECK: RANGE, else the lane's check-test arm is set (R38, R172). -/
def takeTestCheck (m : Master) (lane : Byte) (s : State) : State × Reply :=
  s.underClaim m 0 <|
    match laneOf? lane with
    | none => (s, .refuse .range 0)
    | some l => (s.onLane l fun x => { x with checkArm := true }, .ok [])

end Sys2Proof.Machine
end

