-- ==== Sys2Proof/Machine/Requests.lean ====
section
/-! DEFINITION. SUBMIT WINDOW, CANCEL and QUERY SLOT (chapter 4). -/

namespace Sys2Proof.Machine

/-- A trigger tag passes when it is past, present or ahead (R64). -/
def triggerPlaced (now t : Tag) : Bool := pastOrPresent now t || isAhead now t

/-- A window start passes when it is present, ahead, or past with an age of at most the horizon (R65). -/
def startPlaced (now start : Tag) (horizon : Half) : Bool :=
  age now start == 0 || isAhead now start || (isPast now start && age now start ≤ horizon.toNat)

/-- The trigger tag of a SUBMIT WINDOW: *now* with use-now, else its parameter (R64). -/
def triggerOf (now : Tag) (control : Byte) (param : Tag) : Tag := if useNowOf control then now else param

/-- SUBMIT WINDOW: the checks of R62 to R66 in order, then the admission (R61, R67). -/
def takeSubmitWindow (m : Master) (trigger : Tag) (pre post : Half) (lanes : LaneSet) (control : Byte)
    (budget : Half) (label : Byte) (s : State) : State × Reply :=
  match (s.master m).session with
  | none => (s, .refuse .notAttached 4)
  | some sess =>
      let t := triggerOf s.now control trigger
      let r := Request.fresh .command (classOf control) t pre post lanes (leadWantedOf control) budget.toNat label
      if budgetRefused budget then (s, .refuse .range 4)
      else if lanesRefused lanes sess.watchSet then (s, .refuse .lanes 4)
      else if !triggerPlaced s.now t then (s, .refuse .ahead 4)
      else if !startPlaced s.now r.start sess.horizon then (s, .refuse .late 4)
      else match (s.master m).firstFree with
        | none => (s, .refuse .queueFull 4)
        | some i => ((s.enterSlot m i r).arbitrate, .ok ([byteOfNat i.val] ++ bytesOfTag t))

/-- The data of an OK answer to CANCEL: slot state and ending (R74, R184). -/
def cancelData (r : Request) : List Byte :=
  [(slotStateCode (some r.state)).setWidth 8, endingByte r.ending]

/-- CANCEL: NOT_ATTACHED, RANGE, BAD_SLOT, then the ending CANCELLED where none is decided; a slot whose
ending is decided is left as it is (R74). -/
def takeCancel (m : Master) (slot : Byte) (s : State) : State × Reply :=
  if !(s.master m).attached then (s, .refuse .notAttached 2)
  else match slotOf? slot with
    | none => (s, .refuse .range 2)
    | some i =>
        match (s.master m).slot i with
        | none => (s, .refuse .badSlot 2)
        | some r =>
            match r.ending with
            | some _ => (s, .ok (cancelData r))
            | none =>
                let d := r.decideEnding .cancelled
                ((s.onMaster m fun x => x.setSlot i (some d)).arbitrate, .ok (cancelData d))

/-- The data bytes of QUERY SLOT; a FREE slot reads as zeros (R83, R184). -/
def slotReport (slot : Option Request) : List Byte :=
  match slot with
  | none => zeroBytes 9
  | some r =>
      [slotByte (some r)] ++ bytesOfTag r.trigger ++ bytesOfCount r.itemsWritten
        ++ [resumeByte r.resume, endingByte r.ending, r.label]

/-- QUERY SLOT: NOT_ATTACHED, RANGE, else a report, also of a FREE slot (R82, R83). -/
def takeQuerySlot (m : Master) (slot : Byte) (s : State) : State × Reply :=
  if !(s.master m).attached then (s, .refuse .notAttached 9)
  else match slotOf? slot with
    | none => (s, .refuse .range 9)
    | some i => (s, .ok (slotReport ((s.master m).slot i)))

end Sys2Proof.Machine
end

