-- ==== Sys2Proof/Machine/Sessions.lean ====
section
/-! DEFINITION. ATTACH, DETACH, KEEP, RESET PORT and READ DEVICE (sections 8.3, 8.5, 8.6). Each effect
is given the state with the sender's lease already renewed (R149). -/

namespace Sys2Proof.Machine

/-- ATTACH: ALREADY, then RANGE, then the session opens (R146). -/
def takeAttach (m : Master) (horizon : Half) (watchSet : LaneSet) (lease : BitVec 24) (s : State) : State × Reply :=
  if (s.master m).attached then (s, .refuse .already 3)
  else if lease.toNat = 0 ∨ Config.maxLease < lease.toNat then (s, .refuse .range 3)
  else
    (s.onMaster m fun x => { x with session := some ⟨horizon, watchSet, lease.toNat, lease.toNat⟩ },
      .ok (bytesOfTag s.now))

/-- DETACH: the session ends with reason DETACH (R147, R152). -/
def takeDetach (m : Master) (s : State) : State × Reply :=
  if (s.master m).attached then ((s.sessionEnd m .detach).arbitrate, .ok [])
  else (s, .refuse .notAttached 0)

/-- KEEP: *now*, the attach state, and the lease remaining just before the taking (R148). -/
def takeKeep (m : Master) (leaseBefore : Nat) (s : State) : State × Reply :=
  (s, .ok (bytesOfTag s.now ++ [yesNoByte (s.master m).attached] ++ bytesOfLong leaseBefore))

/-- The settings and records RESET PORT restores in either attach state (R154). -/
def MasterState.restorePort (x : MasterState) : MasterState :=
  { x.clearFlagsAndMask with
    watermark := 128
    frameErrors := 0
    badChecks := 0
    refusals := 0
    lastRefusal := .none }

/-- RESET PORT: an attached session ends with reason PORT_RESET, then the port is restored (R154, R181). -/
def takeResetPort (m : Master) (s : State) : State × Reply :=
  let was := (s.master m).attached
  let t := if was then s.sessionEnd m .portReset else s
  ((t.onMaster m MasterState.restorePort).arbitrate, .ok [yesNoByte was])

/-- The attached set, bit n for Mn (R184). -/
def State.attachedSet (s : State) : Byte :=
  (0 : BitVec 4) ++ BitVec.ofBool (s.master 3).attached ++ BitVec.ofBool (s.master 2).attached
    ++ BitVec.ofBool (s.master 1).attached ++ BitVec.ofBool (s.master 0).attached

/-- The data bytes of READ DEVICE (R155, R184); a divisor of 65,536 reads as 0. -/
def State.deviceReport (s : State) (m : Master) : List Byte :=
  bytesOfTag s.now ++ bytesOfCount s.freePool ++ [masterByte s.claim, s.attachedSet, engineByte s.serving]
    ++ [byteOfNat s.queue.length, s.tickSource.byte] ++ bytesOfCount s.divisor
    ++ bytesOfHalf s.framingErrors ++ bytesOfHalf s.parityErrors ++ bytesOfHalf s.disabledDiscards
    ++ bytesOfHalf s.queueOverflows
    ++ bytesOfHalf (s.master m).frameErrors ++ bytesOfHalf (s.master m).badChecks

/-- READ DEVICE: reports the part as it stands (R155). -/
def takeReadDevice (m : Master) (s : State) : State × Reply := (s, .ok (s.deviceReport m))

end Sys2Proof.Machine
end

