-- ==== Sys2Proof/Machine/Store.lean ====
section
/-! DEFINITION. The store operation of the Lane Histories (section 2.5, R37) and READ LANE. -/

namespace Sys2Proof.Machine

/-- The outcomes of a store completion, one for each row of the table of R26. -/
inductive StoreStep
  | discard
  | extendEqual
  | closeGap
  | extend
  | restate
  | suppress
  | append
  | openGap
  deriving DecidableEq, Repr

/-- The free places of a lane (R29). -/
def Lane.freePlaces (x : Lane) : Nat := x.capacity - x.records.length

/-- The places a store can obtain: the free ones and the records of the unprotected prefix (R29). -/
def Lane.obtainable (now : Tag) (protectAge : Option Nat) (x : Lane) : Nat :=
  x.freePlaces + unprotectedCount now protectAge x.records

/-- The newest record is a SAMPLE with the frame's tag (R31). -/
def Lane.restatedBy (f : Frame) (x : Lane) : Bool :=
  match x.records.getLast? with
  | some (.sample k ..) => k == f.tag
  | some (.gap ..) | none => false

/-- The difference of two values is within a deadband, taken on the true signed values (R32). -/
def withinDeadband (a b deadband : Half) : Bool := (a.toInt - b.toInt).natAbs ≤ deadband.toNat

/-- The keepalive of a lane is off, or not due at this age of the newest key tag (R32). -/
def keepaliveQuiet (now key : Tag) (keepalive : Half) : Bool :=
  keepalive == 0 || age now key < keepalive.toNat

/-- The frame is suppressed: unforced, within the deadband of the newest value, keepalive not due (R32). -/
def Lane.suppresses (now : Tag) (f : Frame) (x : Lane) : Bool :=
  match x.records.getLast? with
  | some (.sample k v ..) => !f.force && withinDeadband f.value v x.deadband && keepaliveQuiet now k x.keepalive
  | some (.gap ..) | none => false

/-- The step that settles a frame: the first that applies at store completion (R26). -/
def Lane.storeStep (now : Tag) (protectAge : Option Nat) (f : Frame) (x : Lane) : StoreStep :=
  if x.capacity = 0 then .discard
  else match x.openGap with
    | some g =>
        if f.tag = g.lastLost then .extendEqual
        else if 2 ≤ x.obtainable now protectAge then .closeGap
        else .extend
    | none =>
        if x.restatedBy f then .restate
        else if x.suppresses now f then .suppress
        else if 1 ≤ x.obtainable now protectAge then .append
        else .openGap

/-- Evicts oldest records until `n` places are free (R29, R33). -/
def Lane.makeRoom (n : Nat) (x : Lane) : Lane := { x with records := x.records.drop (n - x.freePlaces) }

/-- The SAMPLE record of a frame (R17). -/
def Frame.record (f : Frame) (afterLoss checkAgrees : Bool) : Record :=
  .sample f.tag f.value false afterLoss checkAgrees

/-- A frame goes into the open gap without moving its last lost tag (R28). -/
def Lane.extendEqual (x : Lane) : Lane :=
  { x with
    openGap := x.openGap.map fun g => { g with lostCount := bump g.lostCount }
    lost := bump x.lost }

/-- A frame goes into the open gap and moves its last lost tag (R30). -/
def Lane.extendGap (f : Frame) (x : Lane) : Lane :=
  { x with
    openGap := x.openGap.map fun g => { g with lastLost := f.tag, lostCount := bump g.lostCount }
    lost := bump x.lost }

/-- The open gap is recorded, then the SAMPLE of the frame is appended; the check-test arm is taken by
the GAP record and the loss mark by the SAMPLE (R29, R37). -/
def Lane.closeGap (f : Frame) (x : Lane) : Lane :=
  match x.openGap with
  | none => x
  | some g =>
      { x.makeRoom 2 with
        records := (x.makeRoom 2).records ++ [.gap g.firstLost g.lastLost g.lostCount (!x.checkArm), f.record x.lossMark true]
        openGap := none
        lossMark := false
        checkArm := false
        stored := bump x.stored }

/-- The record a restating frame leaves: its value, the restated flag if the value changed, and a check
that agrees unless the arm is set (R31, R37). -/
def Record.restateWith (f : Frame) (arm : Bool) : Record → Record
  | .sample k v rs al _ => .sample k f.value (rs || f.value != v) al (!arm)
  | .gap k last n ok => .gap k last n ok

/-- The newest SAMPLE holds another value than the frame's (R31). -/
def Lane.restatementChanges (f : Frame) (x : Lane) : Bool :=
  match x.records.getLast? with
  | some (.sample _ v ..) => f.value != v
  | some (.gap ..) | none => false

/-- The frame restates the newest record (R31). -/
def Lane.restate (f : Frame) (x : Lane) : Lane :=
  { x with
    records := x.records.dropLast ++ (x.records.getLast?.map (Record.restateWith f x.checkArm)).toList
    checkArm := false
    restated := if x.restatementChanges f then bump x.restated else x.restated }

/-- The SAMPLE of the frame is appended, the oldest record evicted where the lane is full; it consumes
the loss mark and the arm (R33, R37). -/
def Lane.appendSample (f : Frame) (x : Lane) : Lane :=
  { x.makeRoom 1 with
    records := (x.makeRoom 1).records ++ [f.record x.lossMark (!x.checkArm)]
    lossMark := false
    checkArm := false
    stored := bump x.stored }

/-- The lane's gap is opened at the frame's tag (R34). -/
def Lane.startGap (f : Frame) (x : Lane) : Lane :=
  { x with openGap := some ⟨f.tag, f.tag, 1⟩, lost := bump x.lost }

/-- A lane after a store completion that a step settles (R27 to R34). -/
def Lane.applyStore (f : Frame) (x : Lane) : StoreStep → Lane
  | .discard => x
  | .extendEqual => x.extendEqual
  | .closeGap => x.closeGap f
  | .extend => x.extendGap f
  | .restate => x.restate f
  | .suppress => { x with suppressed := bump x.suppressed }
  | .append => x.appendSample f
  | .openGap => x.startGap f

/-- Store completion of a head frame: it is applied to its lane as the lane stands, a frame discarded at
capacity 0 is counted, and a gap opened raises PRESSURE (R26, R27, R34, R55). -/
def State.storeFrame (s : State) (f : Frame) : State :=
  let step := (s.lane f.lane).storeStep s.now (s.protectAge f.lane) f
  let t := s.onLane f.lane fun x => x.applyStore f step
  match step with
  | .discard => { t with disabledDiscards := bump t.disabledDiscards }
  | .openGap => t.onMasters (MasterState.raisePressure f.lane)
  | .extendEqual | .closeGap | .extend | .restate | .suppress | .append => t

/-- Store completion: the head frame is stored and leaves the queue, every WAITING slot is tested for
readiness, and the engine arbitrates (R26, R53, R68, R97).  With an empty queue no store is in flight. -/
def State.completeStore (s : State) : State :=
  match s.queue with
  | [] => s
  | f :: rest => ({ s.storeFrame f with queue := rest } : State).testReadiness.arbitrate

/-- STORE_COMPLETION (R26). -/
def execStoreCompletion (s : State) : Host.Outcome State Fault Refusal :=
  .next (s.unlessHeld State.completeStore)

/-- ITEM_COMPLETION (R101). -/
def execItemCompletion (s : State) : Host.Outcome State Fault Refusal :=
  .next (s.unlessHeld State.completeItem)

/-- The data bytes of an OK answer to READ LANE (R42, R184). -/
def State.laneReport (s : State) (l : LaneId) : List Byte :=
  let x := s.lane l
  let p := s.protectAge l
  let oldest := (x.records.head?.map Record.key).getD 0
  let newest := (x.records.getLast?.map Record.key).getD 0
  [laneByte x p] ++ bytesOfCount x.capacity ++ bytesOfCount x.records.length ++ bytesOfTag oldest ++ bytesOfTag newest
    ++ bytesOfLong (p.getD 0)
    ++ bytesOfTag ((x.openGap.map OpenGap.firstLost).getD 0) ++ bytesOfTag ((x.openGap.map OpenGap.lastLost).getD 0)
    ++ bytesOfHalf ((x.openGap.map OpenGap.lostCount).getD 0)
    ++ bytesOfHalf x.deadband ++ bytesOfHalf x.keepalive
    ++ bytesOfHalf x.stored ++ bytesOfHalf x.suppressed ++ bytesOfHalf x.lost ++ bytesOfHalf x.restated
    ++ bytesOfHalf x.corrupt

/-- READ LANE: changes nothing (R41, R42). -/
def takeReadLane (lane : Byte) (s : State) : State × Reply :=
  match laneOf? lane with
  | none => (s, .refuse .range 36)
  | some l => (s, .ok (s.laneReport l))

end Sys2Proof.Machine
end

