-- ==== Sys2Proof/Machine/Takings.lean ====
section
/-! DEFINITION. The taking of each command frame, the frames answered BAD_CHECK and UNKNOWN, the byte
events and selections of a port, and the reset input. One definition for each row. -/

namespace Sys2Proof.Machine

/-- The taking of a frame with a good check that spells a command (R139). -/
def State.take (s : State) (m : Master) : Command → State
  | .attach h w l => s.taken m (takeAttach m h w l)
  | .detach => s.taken m (takeDetach m)
  | .keep => s.taken m (takeKeep m (s.master m).leaseRemaining)
  | .resetPort => s.taken m (takeResetPort m)
  | .readDevice => s.taken m (takeReadDevice m)
  | .submitWindow t pre post ls c b lab => s.taken m (takeSubmitWindow m t pre post ls c b lab)
  | .cancel i => s.taken m (takeCancel m i)
  | .querySlot i => s.taken m (takeQuerySlot m i)
  | .setTemplate lag pre post ls c b lab => s.taken m (takeSetTemplate m lag pre post ls c b lab)
  | .clearTemplate => s.taken m (takeClearTemplate m)
  | .readItems n => s.taken m (takeReadItems m n)
  | .setWatermark w => s.taken m (takeSetWatermark m w)
  | .readLane l => s.taken m (takeReadLane l)
  | .readFlags => s.taken m (takeReadFlags m)
  | .ackFlags f => s.taken m (takeAckFlags m f)
  | .setMask f => s.taken m (takeSetMask m f)
  | .claim => s.taken m (takeClaim m)
  | .release => s.taken m (takeRelease m)
  | .laneSetup l e d k => s.taken m (takeLaneSetup m l e d k)
  | .partition l c => s.taken m (takePartition m l c)
  | .purgeLanes ls => s.taken m (takePurgeLanes m ls)
  | .setTickSource src d => s.taken m (takeSetTickSource m src d)
  | .clearCounters ls d => s.taken m (takeClearCounters m ls d)
  | .testCheck l => s.taken m (takeTestCheck m l)

/-- The taking of a whole frame by its bytes: BAD_CHECK when they do not sum to 0, UNKNOWN for a code
that names no command, else the command they spell (R139, R140). -/
def State.takeFrame (s : State) (m : Master) (frame : List Byte) : State :=
  if byteSum frame ≠ 0 then s.takenBad m
  else match decodeFrame frame with
    | none => s.takenUnknown m
    | some c => s.take m c

/-- A byte on SDIm: while RECEIVING it joins the bytes received, and the one that brings them to the
length of the frame is the check byte, at which the frame is taken; otherwise it is ignored (R137,
R138, R139, R142). -/
def State.receiveByte (s : State) (m : Master) (b : Byte) : State :=
  match (s.master m).frame with
  | .receiving got =>
      if (got ++ [b]).length < frameLength ((got ++ [b]).headD 0) then
        s.onMaster m fun x => { x with frame := .receiving (got ++ [b]), sdo := some 0 }
      else s.takeFrame m (got ++ [b])
  | .answering _ | .trailing | .deselected => s

/-- The taking of a command's frame on a port that can receive it. -/
def State.command (s : State) (m : Master) (c : Command) : State :=
  if s.canTake m c.frame then s.take m c else s

/-! ### The rows that a command frame carries -/

/-- ATTACH (R146). -/
def execAttach (m : Master) (h : Half) (w : LaneSet) (l : BitVec 24) (s : State) : Host.Outcome State Fault Refusal :=
  .next (s.command m (.attach h w l))

/-- DETACH (R147). -/
def execDetach (m : Master) (s : State) : Host.Outcome State Fault Refusal := .next (s.command m .detach)

/-- KEEP (R148). -/
def execKeep (m : Master) (s : State) : Host.Outcome State Fault Refusal := .next (s.command m .keep)

/-- RESET PORT (R154). -/
def execResetPort (m : Master) (s : State) : Host.Outcome State Fault Refusal := .next (s.command m .resetPort)

/-- READ DEVICE (R155). -/
def execReadDevice (m : Master) (s : State) : Host.Outcome State Fault Refusal := .next (s.command m .readDevice)

/-- SUBMIT WINDOW (R61). -/
def execSubmitWindow (m : Master) (t : Tag) (pre post : Half) (ls : LaneSet) (c : Byte) (b : Half) (lab : Byte)
    (s : State) : Host.Outcome State Fault Refusal :=
  .next (s.command m (.submitWindow t pre post ls c b lab))

/-- CANCEL (R74). -/
def execCancel (m : Master) (i : Byte) (s : State) : Host.Outcome State Fault Refusal := .next (s.command m (.cancel i))

/-- QUERY SLOT (R82). -/
def execQuerySlot (m : Master) (i : Byte) (s : State) : Host.Outcome State Fault Refusal :=
  .next (s.command m (.querySlot i))

/-- SET TEMPLATE (R85). -/
def execSetTemplate (m : Master) (lag pre post : Half) (ls : LaneSet) (c : Byte) (b : Half) (lab : Byte)
    (s : State) : Host.Outcome State Fault Refusal :=
  .next (s.command m (.setTemplate lag pre post ls c b lab))

/-- CLEAR TEMPLATE (R86). -/
def execClearTemplate (m : Master) (s : State) : Host.Outcome State Fault Refusal :=
  .next (s.command m .clearTemplate)

/-- READ ITEMS (R128). -/
def execReadItems (m : Master) (n : Byte) (s : State) : Host.Outcome State Fault Refusal :=
  .next (s.command m (.readItems n))

/-- SET WATERMARK (R134). -/
def execSetWatermark (m : Master) (w : Byte) (s : State) : Host.Outcome State Fault Refusal :=
  .next (s.command m (.setWatermark w))

/-- READ LANE (R41). -/
def execReadLane (m : Master) (l : Byte) (s : State) : Host.Outcome State Fault Refusal :=
  .next (s.command m (.readLane l))

/-- READ FLAGS (R178). -/
def execReadFlags (m : Master) (s : State) : Host.Outcome State Fault Refusal := .next (s.command m .readFlags)

/-- ACK FLAGS (R179). -/
def execAckFlags (m : Master) (f : Byte) (s : State) : Host.Outcome State Fault Refusal :=
  .next (s.command m (.ackFlags f))

/-- SET MASK (R180). -/
def execSetMask (m : Master) (f : Byte) (s : State) : Host.Outcome State Fault Refusal :=
  .next (s.command m (.setMask f))

/-- CLAIM (R159). -/
def execClaim (m : Master) (s : State) : Host.Outcome State Fault Refusal := .next (s.command m .claim)

/-- RELEASE (R160). -/
def execRelease (m : Master) (s : State) : Host.Outcome State Fault Refusal := .next (s.command m .release)

/-- LANE SETUP (R165). -/
def execLaneSetup (m : Master) (l e : Byte) (d k : Half) (s : State) : Host.Outcome State Fault Refusal :=
  .next (s.command m (.laneSetup l e d k))

/-- PARTITION (R167). -/
def execPartition (m : Master) (l : Byte) (c : Half) (s : State) : Host.Outcome State Fault Refusal :=
  .next (s.command m (.partition l c))

/-- PURGE LANES (R169). -/
def execPurgeLanes (m : Master) (ls : LaneSet) (s : State) : Host.Outcome State Fault Refusal :=
  .next (s.command m (.purgeLanes ls))

/-- SET TICK SOURCE (R170). -/
def execSetTickSource (m : Master) (src : Byte) (d : Half) (s : State) : Host.Outcome State Fault Refusal :=
  .next (s.command m (.setTickSource src d))

/-- CLEAR COUNTERS (R171). -/
def execClearCounters (m : Master) (ls : LaneSet) (d : Byte) (s : State) : Host.Outcome State Fault Refusal :=
  .next (s.command m (.clearCounters ls d))

/-- TEST CHECK (R172). -/
def execTestCheck (m : Master) (l : Byte) (s : State) : Host.Outcome State Fault Refusal :=
  .next (s.command m (.testCheck l))

/-! ### Frames without a command, and the events of a port -/

/-- BAD_CHECK_FRAME: a whole frame whose bytes do not sum to 0 is taken (R139). -/
def execBadCheckFrame (m : Master) (frame : List Byte) (s : State) : Host.Outcome State Fault Refusal :=
  .next (if badCheckFrameForm frame && s.canTake m frame then s.takenBad m else s)

/-- UNKNOWN_CODE_FRAME: the two-byte frame of an unknown code with a good check is taken (R140). -/
def execUnknownCodeFrame (m : Master) (code : Byte) (s : State) : Host.Outcome State Fault Refusal :=
  .next (if !knownCode code && s.canTake m [code, checkByte [code]] then s.takenUnknown m else s)

/-- SELECTION_BEGIN (R137). -/
def execSelectionBegin (m : Master) (s : State) : Host.Outcome State Fault Refusal :=
  .next (s.unlessHeld fun t => t.beginSelection m)

/-- SELECTION_END (R131, R141). -/
def execSelectionEnd (m : Master) (s : State) : Host.Outcome State Fault Refusal :=
  .next (s.unlessHeld fun t => t.endSelection m)

/-- ITEM_REMOVAL: the sixth byte of a group is shifted out (R129). -/
def execItemRemoval (m : Master) (s : State) : Host.Outcome State Fault Refusal :=
  .next (s.unlessHeld fun t => t.finishGroup m)

/-- BYTE_RECEIVED (R138). -/
def execByteReceived (m : Master) (b : Byte) (s : State) : Host.Outcome State Fault Refusal :=
  .next (s.unlessHeld fun t => t.receiveByte m b)

/-- ANSWER_BYTE_SHIFTED (R142). -/
def execAnswerByteShifted (m : Master) (s : State) : Host.Outcome State Fault Refusal :=
  .next (s.unlessHeld fun t => t.clockByteOut m)

/-! ### The reset input -/

/-- POWER_ON_RESET: RST goes low, every block takes its power-on values and the reset hold begins (R7, R43,
R57, R80, R84, R123, R133, R156, R158, R174). -/
def execPowerOnReset (s : State) : Host.Outcome State Fault Refusal :=
  .next { State.reset with resetHold := true, pending := s.pending }

/-- RST_RELEASE: the reset hold ends (R7, R44, R88, R137). -/
def execRstRelease (s : State) : Host.Outcome State Fault Refusal := .next { s with resetHold := false }

end Sys2Proof.Machine
end

