-- ==== Sys2Proof/Machine/Dispatch.lean ====
section
/-! DEFINITION. Which meaning each row of the table has: one arm for each constructor of Instr. -/

namespace Sys2Proof.Machine

/-- The effect of one command or event on everything but the queue of pending ones. -/
def exec (i : Instr) (s : State) : Host.Outcome State Fault Refusal :=
  match i with
  | .attach m horizon watchSet lease => Sys2Proof.Machine.execAttach m horizon watchSet lease s
  | .detach m => Sys2Proof.Machine.execDetach m s
  | .keep m => Sys2Proof.Machine.execKeep m s
  | .resetPort m => Sys2Proof.Machine.execResetPort m s
  | .readDevice m => Sys2Proof.Machine.execReadDevice m s
  | .submitWindow m trigger pre post lanes control budget label => Sys2Proof.Machine.execSubmitWindow m trigger pre post lanes control budget label s
  | .cancel m slot => Sys2Proof.Machine.execCancel m slot s
  | .querySlot m slot => Sys2Proof.Machine.execQuerySlot m slot s
  | .setTemplate m lag pre post lanes control budget label => Sys2Proof.Machine.execSetTemplate m lag pre post lanes control budget label s
  | .clearTemplate m => Sys2Proof.Machine.execClearTemplate m s
  | .readItems m largest => Sys2Proof.Machine.execReadItems m largest s
  | .setWatermark m watermark => Sys2Proof.Machine.execSetWatermark m watermark s
  | .readLane m lane => Sys2Proof.Machine.execReadLane m lane s
  | .readFlags m => Sys2Proof.Machine.execReadFlags m s
  | .ackFlags m flags => Sys2Proof.Machine.execAckFlags m flags s
  | .setMask m mask => Sys2Proof.Machine.execSetMask m mask s
  | .claim m => Sys2Proof.Machine.execClaim m s
  | .release m => Sys2Proof.Machine.execRelease m s
  | .laneSetup m lane enable deadband keepalive => Sys2Proof.Machine.execLaneSetup m lane enable deadband keepalive s
  | .partition m lane capacity => Sys2Proof.Machine.execPartition m lane capacity s
  | .purgeLanes m lanes => Sys2Proof.Machine.execPurgeLanes m lanes s
  | .setTickSource m source divisor => Sys2Proof.Machine.execSetTickSource m source divisor s
  | .clearCounters m lanes device => Sys2Proof.Machine.execClearCounters m lanes device s
  | .testCheck m lane => Sys2Proof.Machine.execTestCheck m lane s
  | .badCheckFrame m frame => Sys2Proof.Machine.execBadCheckFrame m frame s
  | .unknownCodeFrame m code => Sys2Proof.Machine.execUnknownCodeFrame m code s
  | .selectionBegin m => Sys2Proof.Machine.execSelectionBegin m s
  | .selectionEnd m => Sys2Proof.Machine.execSelectionEnd m s
  | .itemRemoval m => Sys2Proof.Machine.execItemRemoval m s
  | .tickArrival => Sys2Proof.Machine.execTickArrival s
  | .dividerExpiry => Sys2Proof.Machine.execDividerExpiry s
  | .leaseExpiry m => Sys2Proof.Machine.execLeaseExpiry m s
  | .requestExpiry m slot => Sys2Proof.Machine.execRequestExpiry m slot s
  | .recordRetirement lane => Sys2Proof.Machine.execRecordRetirement lane s
  | .openGapRetirement lane => Sys2Proof.Machine.execOpenGapRetirement lane s
  | .captureEdge m => Sys2Proof.Machine.execCaptureEdge m s
  | .sampleFrameArrival qsyn frame => Sys2Proof.Machine.execSampleFrameArrival qsyn frame s
  | .partialFrameDiscard qdat => Sys2Proof.Machine.execPartialFrameDiscard qdat s
  | .storeCompletion => Sys2Proof.Machine.execStoreCompletion s
  | .itemCompletion => Sys2Proof.Machine.execItemCompletion s
  | .powerOnReset => Sys2Proof.Machine.execPowerOnReset s
  | .frameStart qdat => Sys2Proof.Machine.execFrameStart qdat s
  | .linkBitSampled qsyn qdat => Sys2Proof.Machine.execLinkBitSampled qsyn qdat s
  | .byteReceived m byte => Sys2Proof.Machine.execByteReceived m byte s
  | .answerByteShifted m => Sys2Proof.Machine.execAnswerByteShifted m s
  | .rstRelease => Sys2Proof.Machine.execRstRelease s
  | .tickLevelChange level => Sys2Proof.Machine.execTickLevelChange level s
  | .capFallingEdge m => Sys2Proof.Machine.execCapFallingEdge m s

end Sys2Proof.Machine
end

