-- ==== Sys2Proof/Safety.lean ====
section
/-! DEFINITION. The terms the claims are made in: the two changes every taking makes to its port, runs of
several commands, and the laws a state of the part keeps. A run is safe when every state of it keeps
the four laws. -/

namespace Sys2Proof.Machine

/-! ### What a taking does to its port -/

/-- The lease of port `m`, if it is attached, back at its length; nothing else changed (R149). -/
def State.renewed (s : State) (m : Master) : State :=
  s.setMaster m { s.master m with
    session := (s.master m).session.map fun x => { x with leaseRemaining := x.leaseLength } }

/-- Port `m` ANSWERING with the bytes `head`, none of them shifted; nothing else changed (R142). -/
def State.answered (s : State) (m : Master) (head : List Byte) : State :=
  s.setMaster m { s.master m with
    frame := .answering { head, groups := 0, ofReadItems := false, cut := false, shifted := 0 }, sdo := some 0 }

/-- A taking on port `m` that changes nothing but the lease and answers `head`. -/
def State.reports (s : State) (m : Master) (head : List Byte) : State := (s.renewed m).answered m head

/-- Port `m` ANSWERING a READ ITEMS: a status byte, a count byte, then `n` groups (R128). -/
def State.answeredItems (s : State) (m : Master) (status : Byte) (n : Nat) : State :=
  s.setMaster m { s.master m with
    frame := .answering { head := [status, BitVec.ofNat 8 n], groups := n, ofReadItems := true, cut := false, shifted := 0 },
    sdo := some 0 }

/-- A Boolean as a number. -/
def bit (b : Bool) : Nat := if b then 1 else 0

/-! ### Terms of the hypotheses -/

/-- A frame can be received whole on port `m`: RST is released and the port is RECEIVING bytes that begin
the frame without completing it (R137, R138). -/
def State.Receives (s : State) (m : Master) (frame : List Byte) : Prop :=
  s.resetHold = false ∧ ∃ got, (s.master m).frame = .receiving got ∧ got <+: frame ∧ got.length < frame.length

/-- A budget the part accepts (R62, R85). -/
abbrev BudgetOk (b : Half) : Prop := 1 ≤ b.toNat ∧ b.toNat ≤ 4096

/-- A lane set the part accepts of a master with this watch set (R63, R85). -/
abbrev LanesOk (ls watch : LaneSet) : Prop := ls ≠ 0 ∧ ls &&& ~~~watch = 0

/-- A trigger tag that is past, present or ahead (R64). -/
abbrev TriggerOk (now t : Tag) : Prop :=
  (now - t).toNat < 8388608 ∨ (1 ≤ (t - now).toNat ∧ (t - now).toNat ≤ 65535)

/-- A window start that is present, ahead, or past within the horizon (R65). -/
abbrev StartOk (now start : Tag) (horizon : Half) : Prop :=
  start = now ∨ (1 ≤ (start - now).toNat ∧ (start - now).toNat ≤ 65535)
    ∨ (1 ≤ (now - start).toNat ∧ (now - start).toNat < 8388608 ∧ (now - start).toNat ≤ horizon.toNat)

/-- Slot `i` is the lowest-numbered FREE slot of the master (R66). -/
def MasterState.LowestFree (x : MasterState) (i : SlotId) : Prop := x.slot i = none ∧ ∀ j < i, x.slot j ≠ none

/-- Slot `i` is in the admission order, READY or CLOSING in this class, with room in the buffer (R96). -/
def MasterState.Eligible (x : MasterState) (c : ReqClass) (i : SlotId) : Prop :=
  i ∈ x.order ∧ x.items.length < 128
    ∧ ∃ r, x.slot i = some r ∧ r.cls = c ∧ (r.state = .ready ∨ r.state = .closing)

/-- The part after a store completion that leaves lane `l` as `x`, `rest` in the Input Queue: the WAITING
slots are tested and the engine arbitrates (R53, R68, R97). -/
def State.afterStore (s : State) (l : LaneId) (x : Lane) (rest : List Frame) : State :=
  ({ s.setLane l x with queue := rest } : State).testReadiness.arbitrate

/-- What one master's session or one of its slots contributes to the protect age of a lane (R23). -/
def State.Contributes (s : State) (l : LaneId) (p : Nat) : Prop :=
  ∃ m, (∃ x, (s.master m).session = some x ∧ x.watchSet.getLsbD l = true ∧ p = x.horizon.toNat)
    ∨ ∃ i r, (s.master m).slot i = some r ∧ r.state ≠ .closing ∧ r.ending = none ∧ r.lanes.getLsbD l = true
        ∧ p = if 1 ≤ (s.now - r.start).toNat ∧ (s.now - r.start).toNat < 8388608 then (s.now - r.start).toNat else 0

/-! ### Tags, windows and offsets, in the numbers of the manual -/

/-- Tag `x` is before tag `y`: by 1 to 2^23 - 1 ticks, or by exactly 2^23 with the larger age (R9). -/
def TagBefore (now x y : Tag) : Prop :=
  (1 ≤ (y - x).toNat ∧ (y - x).toNat < 8388608) ∨ ((y - x).toNat = 8388608 ∧ (now - y).toNat < (now - x).toNat)

/-- The signed distance of tag `x` from the trigger tag `t`: counted from `t` where `x` is `t` or after it, else back
from `t` (R9, R12). -/
def tagOffset (now x t : Tag) : Int :=
  if (x - t).toNat < 8388608 ∨ ((x - t).toNat = 8388608 ∧ (now - x).toNat < (now - t).toNat) then ((x - t).toNat : Int) else -((t - x).toNat : Int)

/-- Tag `x` lies in the window of the request (R10). -/
def Request.InWindow (r : Request) (x : Tag) : Prop :=
  (x - (r.trigger - r.pre.setWidth 24)).toNat ≤ r.pre.toNat + r.post.toNat

/-- Tag `x` lies before the window of the request (R10). -/
def Request.BeforeWindow (r : Request) (x : Tag) : Prop :=
  ¬ r.InWindow x ∧ 1 ≤ (r.trigger - r.pre.setWidth 24 - x).toNat ∧ (r.trigger - r.pre.setWidth 24 - x).toNat ≤ 8388608

/-- The next step brings a tick arrival, RST being released: under the EXTERNAL source a high level seen on TICK
after a low one, under the DIVIDED source the period in which the divider count reaches D, as a row or as a step
with no command waiting (R3, R4; logs 1, 2 and 4). -/
def State.TickDue (s : State) : Prop :=
  s.resetHold = false
    ∧ ((s.tickSource = .external ∧ s.tickLevel = .low
          ∧ (s.pending.head? = some .tickArrival ∨ s.pending.head? = some (.tickLevelChange .high)))
      ∨ (s.tickSource = .divided ∧ s.divisor ≤ s.dividerCount + 1
          ∧ (s.pending = [] ∨ s.pending.head? = some .dividerExpiry)))

/-! ### Runs -/

/-- Carries out commands and events one after another, stopping at the first that gives no next state. -/
def runAll : List Instr → State → Host.Outcome State Fault Refusal
  | [], s => .next s
  | i :: rest, s =>
      match exec i s with
      | .next t => runAll rest t
      | .fault r => .fault r
      | .refused r => .refused r

/-- The row of the table a command's frame is taken as, on port `m`. -/
def rowOf (m : Master) : Command → Instr
  | .attach h w l => .attach m h w l
  | .detach => .detach m
  | .keep => .keep m
  | .resetPort => .resetPort m
  | .readDevice => .readDevice m
  | .submitWindow t pre post ls c b lab => .submitWindow m t pre post ls c b lab
  | .cancel i => .cancel m i
  | .querySlot i => .querySlot m i
  | .setTemplate lag pre post ls c b lab => .setTemplate m lag pre post ls c b lab
  | .clearTemplate => .clearTemplate m
  | .readItems n => .readItems m n
  | .setWatermark w => .setWatermark m w
  | .readLane l => .readLane m l
  | .readFlags => .readFlags m
  | .ackFlags f => .ackFlags m f
  | .setMask f => .setMask m f
  | .claim => .claim m
  | .release => .release m
  | .laneSetup l e d k => .laneSetup m l e d k
  | .partition l c => .partition m l c
  | .purgeLanes ls => .purgeLanes m ls
  | .setTickSource src d => .setTickSource m src d
  | .clearCounters ls d => .clearCounters m ls d
  | .testCheck l => .testCheck m l

/-! ### The law of the lanes (R14, R15, R19, R20) -/

/-- Every GAP record is immediately followed by a SAMPLE record (R20). -/
def gapsFollowed : List Record → Bool
  | [] => true
  | [.gap ..] => false
  | .gap .. :: .gap .. :: _ => false
  | .gap .. :: .sample k v rs al ok :: rest => gapsFollowed (.sample k v rs al ok :: rest)
  | .sample .. :: rest => gapsFollowed rest

/-- One lane: its capacity is 0 or 4 to 2,048 and bounds its records, an enabled lane has places, a lane
with none has no open gap, and every GAP is followed by its SAMPLE. -/
abbrev Lane.Law (x : Lane) : Prop :=
  (x.capacity = 0 ∨ (4 ≤ x.capacity ∧ x.capacity ≤ 2048))
    ∧ (x.enabled = true → 4 ≤ x.capacity)
    ∧ x.records.length ≤ x.capacity
    ∧ (x.capacity = 0 → x.openGap = none)
    ∧ gapsFollowed x.records = true

/-- Every lane keeps its law, and the capacities total at most 4,096 (R15). -/
abbrev State.LaneLaw (s : State) : Prop :=
  (∀ l : LaneId, (s.lane l).Law) ∧ (allLanes.map fun l => (s.lane l).capacity).sum ≤ 4096

/-! ### The law of the sessions (R79, R87, R93, R133, R145, R158) -/

/-- What a master may hold, by its session. -/
abbrev MasterState.SessionLaw (x : MasterState) : Prop :=
  match x.session with
  | none => (∀ i : SlotId, x.slot i = none) ∧ x.template = none ∧ x.items = [] ∧ x.reading = none
  | some sess =>
      1 ≤ sess.leaseRemaining ∧ sess.leaseRemaining ≤ sess.leaseLength ∧ sess.leaseLength ≤ 1048575
        ∧ (∀ i : SlotId, (x.slot i).all fun r => !lanesRefused r.lanes sess.watchSet)
        ∧ (x.template.all fun t =>
            !lanesRefused t.lanes sess.watchSet && t.lag.toNat + t.pre.toNat ≤ sess.horizon.toNat)

/-- Every master keeps its law; the claim holder and the served master are attached. -/
abbrev State.SessionLaw (s : State) : Prop :=
  (∀ m : Master, (s.master m).SessionLaw)
    ∧ (∀ m : Master, s.claim = some m → (s.master m).attached = true)
    ∧ (∀ m : Master, (s.serving.map Serving.master) = some m → (s.master m).attached = true)

/-! ### The law of the engine (R59, R60, R94, R95, R97, R101, R121, R124) -/

/-- A live slot: an ending goes with CLOSING or ACTIVE and leaves no resume point, the items written keep
within the budget, and an unopened slot has none. -/
abbrev Request.Law (r : Request) : Prop :=
  1 ≤ r.budget ∧ r.budget ≤ 4096 ∧ r.itemsWritten ≤ r.budget
    ∧ (r.state = .closing → r.ending ≠ none)
    ∧ (r.state = .waiting ∨ r.state = .ready → r.ending = none)
    ∧ (r.ending ≠ none → r.resume = none)
    ∧ (r.opened = false → r.itemsWritten = 0 ∧ r.resume = none)
    ∧ (r.state = .waiting → r.opened = false)

/-- The item in flight suits its slot: an OPEN goes to an unopened slot, a CLOSE carries the slot's ending
and items written, and any other item to an opened slot with budget left. -/
abbrev Flight.Suits (f : Flight) (i : SlotId) (r : Request) : Prop :=
  f.item.slot = i
    ∧ (f.item.isOpen = true → r.opened = false)
    ∧ (f.item.isClose = true → ∃ e, r.ending = some e ∧ f.item = .close i r.label e r.itemsWritten)
    ∧ (f.item.counted = true → r.opened = true ∧ r.itemsWritten < r.budget)

/-- One master's slots, admission order, buffer and template budget. -/
abbrev MasterState.EngineLaw (x : MasterState) : Prop :=
  x.items.length ≤ 128
    ∧ x.order.Nodup
    ∧ (∀ i : SlotId, i ∈ x.order ↔ x.slot i ≠ none)
    ∧ (∀ i : SlotId, ∀ r, x.slot i = some r → r.Law)
    ∧ (∀ t, x.template = some t → 1 ≤ t.budget ∧ t.budget ≤ 4096)

/-- The ACTIVE slot is the one the engine serves, with an item in flight that suits it and room for the
item; an IDLE engine leaves no slot eligible. -/
abbrev State.EngineLaw (s : State) : Prop :=
  (∀ m : Master, (s.master m).EngineLaw)
    ∧ (∀ m : Master, ∀ i : SlotId, ∀ r, (s.master m).slot i = some r → r.state = .active →
        ∃ v, s.serving = some v ∧ v.master = m ∧ v.slot = i)
    ∧ (∀ v, s.serving = some v → (s.master v.master).items.length < 128
        ∧ ∃ r, (s.master v.master).slot v.slot = some r ∧ r.state = .active ∧ v.flight.Suits v.slot r)
    ∧ (s.serving = none → ∀ m : Master, ∀ i : SlotId, ∀ c, (s.master m).eligible c i = false)

/-! ### The law of the time base, the link and the ports (R4, R45, R52, R124, R138, R142) -/

/-- The bytes received on a port stop short of a frame, and the answer being shifted has a byte left. -/
def FrameState.lawful : FrameState → Bool
  | .receiving [] => true
  | .receiving (b :: rest) => (b :: rest).length < frameLength b
  | .answering a => a.shifted < a.length
  | .trailing => true
  | .deselected => true

/-- The partial frame has 1 to 21 bits. -/
def Assembly.lawful : Assembly → Bool
  | .idle => true
  | .assembling bits => 1 ≤ bits.length && bits.length ≤ 21

/-- The bounds of the Time Base, the receiver, the Input Queue and the ports. -/
abbrev State.PortLaw (s : State) : Prop :=
  1 ≤ s.divisor ∧ s.divisor ≤ 65536 ∧ s.dividerCount < s.divisor
    ∧ s.queue.length ≤ 16 ∧ s.assembly.lawful = true
    ∧ ∀ m : Master, (s.master m).frame.lawful = true ∧ 1 ≤ (s.master m).watermark ∧ (s.master m).watermark ≤ 128

end Sys2Proof.Machine
end

