-- ==== Sys2Proof/Certificates/Slice0/Obligations.lean ====
section
/-! DEFINITION. What is claimed of the model, one statement for each obligation. A statement about a
command gives the whole next state, so that what it does not name is unchanged; answers are written out
in bytes. The row of a command is the taking of its whole frame, the bytes not yet received included (log 6);
`State.Receives` says when that can happen. -/

open Sys2Proof Sys2Proof.Machine

/-! ### Steps and time -/

/-- A step carries out the command at the front of the queue with the rest of the queue waiting. -/
def Obligations.StepRunsTheFrontCommand : Prop :=
  ∀ (s : State) (c : Instr) (rest : List Instr),
    s.pending = c :: rest → step s = exec c { s with pending := rest }

/-- With no command waiting a step is one device-clock period; from a divider count of 0 the divided source brings
a tick at the D-th period and none before.  That a step passes a period is the model's choice (log 1); what the
period does is R4, R3 and R7. -/
def Obligations.IdleStepsPassClockPeriods : Prop :=
  (∀ s : State, s.pending = [] →
      step s = .next
        (if s.resetHold = true ∨ s.tickSource = .external then s
         else if s.dividerCount + 1 < s.divisor then { s with dividerCount := s.dividerCount + 1 }
         else ({ s with dividerCount := 0 } : State).tick))
    ∧ (∀ s : State, s.pending = [] → s.resetHold = false → s.tickSource = .divided → s.dividerCount = 0 → 1 ≤ s.divisor →
        (∀ k < s.divisor, Host.Core.run Sys2Proof.core k s = .next { s with dividerCount := k })
          ∧ Host.Core.run Sys2Proof.core s.divisor s = .next s.tick)

/-- A level seen on TICK becomes the last level, and it is a tick arrival exactly when it is high after low under
the EXTERNAL source (R3); the divider count reaching D brings a tick and a count of 0 under the DIVIDED source, and
neither while it has further to go nor under the EXTERNAL source, where it does not advance, does it tick (R3, R4).
The row TICK_ARRIVAL is a high level seen (log 4); the row DIVIDER_EXPIRY is the period in which the count goes from
D - 1 to D, and does nothing when that is not the next one (logs 2 and 5). -/
def Obligations.TicksComeFromTheirSource : Prop :=
  (∀ (s : State) (level : Level), s.resetHold = false →
      (s.tickSource = .external → s.tickLevel = .low →
          exec .tickArrival s = .next ({ s with tickLevel := .high } : State).tick
            ∧ exec (.tickLevelChange .high) s = .next ({ s with tickLevel := .high } : State).tick)
        ∧ (s.tickSource = .divided ∨ s.tickLevel = .high → exec .tickArrival s = .next { s with tickLevel := .high })
        ∧ (s.tickSource = .divided ∨ s.tickLevel = .high ∨ level = .low →
            exec (.tickLevelChange level) s = .next { s with tickLevel := level }))
    ∧ (∀ s : State, s.resetHold = false →
        (s.tickSource = .divided → s.divisor ≤ s.dividerCount + 1 →
            exec .dividerExpiry s = .next ({ s with dividerCount := 0 } : State).tick)
          ∧ (s.tickSource = .external ∨ s.dividerCount + 1 < s.divisor → exec .dividerExpiry s = .next s))

/-- What one tick arrival does before its arbitration: *now* by one, retirement in every lane, the readiness test and
then the expiry of every slot, the lease countdown of every port and the session end of one whose lease runs out;
nothing else (R1, R2, R35, R36, R68, R76, R97, R150, R187).  The order of the reactions is the model's (log 3). -/
def Obligations.TickReactions : Prop :=
  ∀ s : State, ∃ u : State, s.tick = u.arbitrate
    ∧ u = { s with
        now := s.now + 1, lanes := u.lanes, masters := u.masters
        serving := match s.serving with
          | some v => if ∃ x ∈ (s.master v.master).session, x.leaseRemaining ≤ 1 then none else some v
          | none => none
        claim := match s.claim with
          | some h => if ∃ x ∈ (s.master h).session, x.leaseRemaining ≤ 1 then none else some h
          | none => none }
    ∧ (∀ l : LaneId,
        u.lane l =
          { s.lane l with
            records :=
              if (s.lane l).records.head?.any (fun r => (s.now + 1 - r.key).toNat == 8388608) then (s.lane l).records.tail
              else (s.lane l).records
            openGap :=
              if (s.lane l).openGap.any (fun g => (s.now + 1 - g.firstLost).toNat == 8388608) then none
              else (s.lane l).openGap
            lossMark :=
              (s.lane l).lossMark || (s.lane l).openGap.any (fun g => (s.now + 1 - g.firstLost).toNat == 8388608) })
    ∧ ∀ m : Master,
        ((s.master m).session = none →
            u.master m = { s.master m with
              slots := (s.master m).slots.map (Option.map fun r => (r.testReadiness (s.now + 1) s.queue).expire (s.now + 1)) })
        ∧ (∀ x, (s.master m).session = some x → 2 ≤ x.leaseRemaining →
            u.master m = { s.master m with
              session := some { x with leaseRemaining := x.leaseRemaining - 1 }
              slots := (s.master m).slots.map (Option.map fun r => (r.testReadiness (s.now + 1) s.queue).expire (s.now + 1)) })
        ∧ (∀ x, (s.master m).session = some x → x.leaseRemaining ≤ 1 → u.master m = (s.sessionEnd m .lease).master m)

/-- A WAITING slot becomes READY exactly when its window has closed and no queued frame stands in its window
or before it; no other slot is touched (R11, R54, R68). -/
def Obligations.ReadinessNeedsTimeAndQueue : Prop :=
  ∀ (now : Tag) (queue : List Frame) (r : Request),
    (r.state = .waiting → 1 ≤ (now - (r.trigger + r.post.setWidth 24)).toNat →
        (now - (r.trigger + r.post.setWidth 24)).toNat < 8388608 →
        (∀ f, queue.head? = some f →
          r.pre.toNat + r.post.toNat < (f.tag - (r.trigger - r.pre.setWidth 24)).toNat
            ∧ (f.tag - (r.trigger - r.pre.setWidth 24)).toNat < 8388608) →
        r.testReadiness now queue = { r with state := .ready })
      ∧ (r.state ≠ .waiting ∨ (now - (r.trigger + r.post.setWidth 24)).toNat = 0
            ∨ 8388608 ≤ (now - (r.trigger + r.post.setWidth 24)).toNat
            ∨ (∃ f, queue.head? = some f
                ∧ ((f.tag - (r.trigger - r.pre.setWidth 24)).toNat ≤ r.pre.toNat + r.post.toNat
                  ∨ 8388608 ≤ (f.tag - (r.trigger - r.pre.setWidth 24)).toNat)) →
          r.testReadiness now queue = r)

/-- A lease whose countdown brings it to 0 ends the session with reason LEASE; a detached port or a lease
with more to run is left alone (R150).  What the row does when it is not due is the model's choice (log 3). -/
def Obligations.LeaseExpiryEndsTheSession : Prop :=
  ∀ (m : Master) (s : State), s.resetHold = false →
    (∀ x, (s.master m).session = some x → x.leaseRemaining ≤ 1 →
        exec (.leaseExpiry m) s = .next (s.sessionEnd m .lease).arbitrate)
      ∧ ((∀ x, (s.master m).session = some x → 2 ≤ x.leaseRemaining) → exec (.leaseExpiry m) s = .next s)

/-- A slot with no ending whose start has reached the expiry age is decided EXPIRED; any other slot is left
alone (R72, R73, R76).  What the row does when it is not due is the model's choice (log 3). -/
def Obligations.RequestExpiryDecidesExpired : Prop :=
  ∀ (m : Master) (i : SlotId) (s : State), s.resetHold = false →
    (∀ r, (s.master m).slot i = some r → r.state ≠ .closing → r.ending = none →
        (s.now - (r.trigger - r.pre.setWidth 24)).toNat = 4194304 →
        exec (.requestExpiry m i) s = .next
          (s.setMaster m ((s.master m).setSlot i (some
            { r with state := if r.state = .active then .active else .closing, ending := some .expired, resume := none }))).arbitrate)
      ∧ ((∀ r, (s.master m).slot i = some r →
            r.state = .closing ∨ r.ending ≠ none ∨ (s.now - (r.trigger - r.pre.setWidth 24)).toNat ≠ 4194304) →
          exec (.requestExpiry m i) s = .next s)

/-- The oldest record leaves its lane at age 2^23, and an open gap becomes absent and marks the lane when its
first lost tag has that age; nothing else changes (R35, R36).  What the rows do when not due is the model's
choice (log 3). -/
def Obligations.RetirementAtHalfTheRange : Prop :=
  ∀ (l : LaneId) (s : State), s.resetHold = false →
    (∀ r rest, (s.lane l).records = r :: rest → (s.now - r.key).toNat = 8388608 →
        exec (.recordRetirement l) s = .next (s.setLane l { s.lane l with records := rest }))
      ∧ ((∀ r, (s.lane l).records.head? = some r → (s.now - r.key).toNat ≠ 8388608) →
          exec (.recordRetirement l) s = .next s)
      ∧ (∀ g, (s.lane l).openGap = some g → (s.now - g.firstLost).toNat = 8388608 →
          exec (.openGapRetirement l) s = .next (s.setLane l { s.lane l with openGap := none, lossMark := true }))
      ∧ ((∀ g, (s.lane l).openGap = some g → (s.now - g.firstLost).toNat ≠ 8388608) →
          exec (.openGapRetirement l) s = .next s)

/-! ### Frames, bits and items -/

/-- The frame of every command sums to 0, has the length its code gives, and spells that command, every
parameter at every value (R138, R139, R182). -/
def Obligations.FramesDecodeToTheirCommand : Prop :=
  ∀ c : Command, byteSum c.frame = 0 ∧ wellSizedFrame c.frame = true ∧ decodeFrame c.frame = some c

/-- Every whole frame of a known code with a good sum is the frame of the one command it spells (R139, R182). -/
def Obligations.GoodFramesAreTheirCommandsFrames : Prop :=
  ∀ (code : Byte) (rest : List Byte), knownCode code = true → wellSizedFrame (code :: rest) = true →
    byteSum (code :: rest) = 0 → ∃ c, decodeFrame (code :: rest) = some c ∧ c.frame = code :: rest

/-- Received byte by byte on a newly selected port, the frame of a command has the effect of its row, and
nothing before its check byte shows in the result (R138, R139). -/
def Obligations.BytesOfAFrameTakeItsCommand : Prop :=
  ∀ (m : Master) (c : Command) (s : State), s.resetHold = false → (s.master m).frame = .receiving [] →
    runAll (c.frame.map (.byteReceived m)) s = exec (rowOf m c) s

/-- The check byte takes the frame: BAD_CHECK for a bad sum, UNKNOWN for an unknown code, else the command the bytes
spell (R139, R140).  A byte before it joins the bytes received and has no effect on any block; a byte is ignored
while the port is not RECEIVING (R137, R138, R142).  That a command's row does nothing where its frame cannot be
received whole is the model's choice (log 5). -/
def Obligations.BytesGatherUntilTheCheckByte : Prop :=
  (∀ (m : Master) (got : List Byte) (b : Byte) (s : State), s.resetHold = false →
      (s.master m).frame = .receiving got → wellSizedFrame (got ++ [b]) = true →
        (byteSum (got ++ [b]) ≠ 0 → exec (.byteReceived m b) s = exec (.badCheckFrame m (got ++ [b])) s)
          ∧ (∀ code, got = [code] → knownCode code = false → byteSum (got ++ [b]) = 0 →
              exec (.byteReceived m b) s = exec (.unknownCodeFrame m code) s)
          ∧ (∀ c : Command, c.frame = got ++ [b] → exec (.byteReceived m b) s = exec (rowOf m c) s))
    ∧ (∀ (m : Master) (b : Byte) (s : State), s.resetHold = false →
        (∀ got, (s.master m).frame = .receiving got → (got ++ [b]).length < frameLength ((got ++ [b]).headD 0) →
            exec (.byteReceived m b) s = .next
              (s.setMaster m { s.master m with frame := .receiving (got ++ [b]), sdo := some 0 }))
          ∧ ((∀ got, (s.master m).frame ≠ .receiving got) → exec (.byteReceived m b) s = .next s))
    ∧ (∀ (m : Master) (c : Command) (s : State), ¬ s.Receives m c.frame → exec (rowOf m c) s = .next s)

/-- Clocked in bit by bit from a sync edge, a sample frame arrives as the row SAMPLE_FRAME_ARRIVAL has it,
every field at every value (R44, R45, R185). -/
def Obligations.LinkEdgesDeliverTheirFrame : Prop :=
  ∀ (s : State) (f : BitVec 22), s.resetHold = false → s.qsynLevel = .low → s.assembly = .idle →
    runAll (.frameStart (f.getMsbD 0) :: (List.range 21).map fun k => .linkBitSampled .low (f.getMsbD (k + 1))) s
      = exec (.sampleFrameArrival .low f) s

/-- The six bytes of an item, laid end to end, are its word, and every field of the word stands where R186
puts it; no item has kind 0. -/
def Obligations.ItemLayout : Prop :=
  ∀ it : Item,
    (∃ a b c d e f : Byte, it.bytes = [a, b, c, d, e, f] ∧ a ++ b ++ c ++ d ++ e ++ f = it.word)
      ∧ it.word.extractLsb' 42 3 = BitVec.ofNat 3 it.slot.val ∧ it.word.extractLsb' 45 3 ≠ 0
      ∧ match it with
        | .lead _ l o v rs al =>
            it.word.extractLsb' 45 3 = 2 ∧ it.word.extractLsb' 38 4 = BitVec.ofNat 4 l.val
              ∧ it.word.getLsbD 37 = rs ∧ it.word.getLsbD 36 = al
              ∧ it.word.extractLsb' 19 17 = BitVec.ofInt 17 o ∧ it.word.extractLsb' 16 3 = 0 ∧ it.word.extractLsb' 0 16 = v
        | .sample _ l o v rs al =>
            it.word.extractLsb' 45 3 = 3 ∧ it.word.extractLsb' 38 4 = BitVec.ofNat 4 l.val
              ∧ it.word.getLsbD 37 = rs ∧ it.word.getLsbD 36 = al
              ∧ it.word.extractLsb' 19 17 = BitVec.ofInt 17 o ∧ it.word.extractLsb' 16 3 = 0 ∧ it.word.extractLsb' 0 16 = v
        | .gap _ l o n bb op =>
            it.word.extractLsb' 45 3 = 4 ∧ it.word.extractLsb' 38 4 = BitVec.ofNat 4 l.val
              ∧ it.word.getLsbD 37 = bb ∧ it.word.getLsbD 36 = op
              ∧ it.word.extractLsb' 19 17 = BitVec.ofInt 17 o ∧ it.word.extractLsb' 16 3 = 0 ∧ it.word.extractLsb' 0 16 = n
        | .corrupt _ l g o v =>
            it.word.extractLsb' 45 3 = 5 ∧ it.word.extractLsb' 38 4 = BitVec.ofNat 4 l.val
              ∧ it.word.getLsbD 37 = g ∧ it.word.getLsbD 36 = false
              ∧ it.word.extractLsb' 19 17 = BitVec.ofInt 17 o ∧ it.word.extractLsb' 16 3 = 0 ∧ it.word.extractLsb' 0 16 = v
        | .empty _ l =>
            it.word.extractLsb' 45 3 = 6 ∧ it.word.extractLsb' 38 4 = BitVec.ofNat 4 l.val ∧ it.word.extractLsb' 0 38 = 0
        | .opened _ o c w label t n =>
            it.word.extractLsb' 45 3 = 1 ∧ it.word.extractLsb' 38 4 = BitVec.ofNat 4 (n - 1)
              ∧ it.word.getLsbD 37 = (o == .capture) ∧ it.word.getLsbD 36 = (c == .urgent) ∧ it.word.getLsbD 35 = w
              ∧ it.word.extractLsb' 32 3 = 0 ∧ it.word.extractLsb' 24 8 = label ∧ it.word.extractLsb' 0 24 = t
        | .close _ label e n =>
            it.word.extractLsb' 45 3 = 7 ∧ it.word.extractLsb' 36 6 = 0 ∧ it.word.extractLsb' 32 2 = 0
              ∧ it.word.extractLsb' 34 2 = (match e with | .complete => 0 | .truncated => 1 | .cancelled => 2 | .expired => 3)
              ∧ it.word.extractLsb' 24 8 = label ∧ it.word.extractLsb' 13 11 = 0 ∧ it.word.extractLsb' 0 13 = BitVec.ofNat 13 n

/-! ### Sessions -/

/-- ATTACH: opens the session, or ALREADY, or RANGE (R146). -/
def Obligations.AttachOpensTheSession : Prop :=
  ∀ (m : Master) (h : Half) (w : LaneSet) (l : BitVec 24) (s : State), s.Receives m (Command.attach h w l).frame →
    ((s.master m).session = none → 1 ≤ l.toNat → l.toNat ≤ 1048575 →
        exec (.attach m h w l) s = .next
          ((s.setMaster m { s.master m with session := some ⟨h, w, l.toNat, l.toNat⟩ }).answered m (0x00 :: bytesOfTag s.now)))
      ∧ ((s.master m).session ≠ none → exec (.attach m h w l) s = .next (s.reports m [0x04, 0, 0, 0]))
      ∧ ((s.master m).session = none → l.toNat = 0 ∨ 1048575 < l.toNat →
          exec (.attach m h w l) s = .next (s.reports m [0x05, 0, 0, 0]))

/-- DETACH ends the session with reason DETACH, or NOT_ATTACHED (R147); RESET PORT ends an attached session with
reason PORT_RESET, then restores the port's own settings and records in either attach state (R154, R181). -/
def Obligations.DetachAndResetPortEndTheSession : Prop :=
  (∀ (m : Master) (s : State), s.Receives m Command.detach.frame →
      ((s.master m).session ≠ none →
          exec (.detach m) s = .next ((s.sessionEnd m .detach).arbitrate.answered m [0x00]))
        ∧ ((s.master m).session = none → exec (.detach m) s = .next (s.reports m [0x03])))
    ∧ (∀ (m : Master) (s : State), s.Receives m Command.resetPort.frame →
        ((s.master m).session ≠ none →
            exec (.resetPort m) s = .next
              (((s.sessionEnd m .portReset).setMaster m
                { (s.sessionEnd m .portReset).master m with
                  closed := false, refused := false, pressure := false, ended := false, mask := 0, watermark := 128,
                  frameErrors := 0, badChecks := 0, refusals := 0, lastRefusal := .none }).arbitrate.answered m [0x00, 0x01]))
          ∧ ((s.master m).session = none →
              exec (.resetPort m) s = .next
                ((s.setMaster m
                  { s.master m with
                    closed := false, refused := false, pressure := false, ended := false, mask := 0, watermark := 128,
                    frameErrors := 0, badChecks := 0, refusals := 0, lastRefusal := .none }).arbitrate.answered m [0x00, 0x00])))

/-- KEEP: reports *now*, the attach state and the lease remaining before the taking, and renews (R148, R149). -/
def Obligations.KeepReportsAndRenews : Prop :=
  ∀ (m : Master) (s : State), s.Receives m Command.keep.frame →
    (∀ x, (s.master m).session = some x →
        exec (.keep m) s = .next ((s.setMaster m { s.master m with session := some { x with leaseRemaining := x.leaseLength } }).answered m
          (0x00 :: bytesOfTag s.now ++ [0x01] ++ bytesOfTag (BitVec.ofNat 24 x.leaseRemaining))))
      ∧ ((s.master m).session = none →
          exec (.keep m) s = .next (s.answered m (0x00 :: bytesOfTag s.now ++ [0x00, 0, 0, 0])))

/-- A session end, whatever its cause: detached with that reason, every slot FREE and no CLOSE, template and
buffer gone, CLOSED, REFUSED and PRESSURE clear, ENDED set for LEASE alone, a READ ITEMS answer cut, the item
in flight discarded and the claim released where they are the master's; nothing else changes (R79, R93, R122,
R132, R152, R161, R181). -/
def Obligations.SessionEndClearsTheMaster : Prop :=
  ∀ (s : State) (m : Master) (why : EndReason),
    s.sessionEnd m why =
      { s.setMaster m
          { s.master m with
            session := none, lastEnd := why, slots := Vector.replicate 8 none, order := [], template := none, items := [],
            reading := none, closed := false, refused := false, pressure := false,
            ended := (s.master m).ended || decide (why = .lease),
            frame := match (s.master m).frame with
              | .answering a => .answering { a with cut := a.cut || a.ofReadItems }
              | f => f } with
        serving := match s.serving with | some v => if v.master = m then none else some v | none => none
        claim := if s.claim = some m then none else s.claim }

/-- READ DEVICE reports the part and changes nothing but the lease (R155, R184). -/
def Obligations.ReadDeviceReportsThePart : Prop :=
  ∀ (m : Master) (s : State), s.Receives m Command.readDevice.frame →
    exec (.readDevice m) s = .next (s.reports m
      (0x00 :: bytesOfTag s.now
        ++ bytesOfHalf (BitVec.ofNat 16 (4096 - (allLanes.map fun l => (s.lane l).capacity).sum))
        ++ [(match s.claim with | none => 0 | some h => BitVec.ofNat 8 (128 + h.val)),
            BitVec.ofNat 8 (bit (s.master 0).session.isSome + 2 * bit (s.master 1).session.isSome
              + 4 * bit (s.master 2).session.isSome + 8 * bit (s.master 3).session.isSome),
            (match s.serving with | none => 0 | some v => BitVec.ofNat 8 (128 + 16 * v.master.val + v.slot.val)),
            BitVec.ofNat 8 s.queue.length,
            (match s.tickSource with | .external => 0 | .divided => 1)]
        ++ bytesOfHalf (BitVec.ofNat 16 s.divisor)
        ++ bytesOfHalf s.framingErrors ++ bytesOfHalf s.parityErrors ++ bytesOfHalf s.disabledDiscards
        ++ bytesOfHalf s.queueOverflows ++ bytesOfHalf (s.master m).frameErrors ++ bytesOfHalf (s.master m).badChecks))

/-! ### Window requests -/

/-- SUBMIT WINDOW within every limit is admitted into the lowest FREE slot, at the newest end of the admission
order, tested for readiness at once, and answered with the slot and its trigger tag (R61, R64, R66, R67, R69). -/
def Obligations.SubmitWindowAdmits : Prop :=
  ∀ (m : Master) (trigger : Tag) (pre post : Half) (lanes : LaneSet) (control : Byte) (budget : Half) (label : Byte)
    (s : State) (x : Session) (t : Tag) (i : SlotId),
    s.Receives m (Command.submitWindow trigger pre post lanes control budget label).frame →
    (s.master m).session = some x → BudgetOk budget → LanesOk lanes x.watchSet →
    t = (if control.getLsbD 2 then s.now else trigger) → TriggerOk s.now t → StartOk s.now (t - pre.setWidth 24) x.horizon →
    (s.master m).LowestFree i →
      exec (.submitWindow m trigger pre post lanes control budget label) s = .next
        (((s.renewed m).setMaster m
          { ((s.renewed m).master m).setSlot i (some
              (({ state := .waiting, origin := .command, cls := if control.getLsbD 0 then .urgent else .normal, trigger := t,
                  pre := pre, post := post, lanes := lanes, leadWanted := control.getLsbD 1, budget := budget.toNat,
                  label := label, opened := false, itemsWritten := 0, resume := none, ending := none } : Request).testReadiness
                s.now s.queue)) with
            order := (s.master m).order ++ [i] }).arbitrate.answered m (0x00 :: BitVec.ofNat 8 i.val :: bytesOfTag t))

/-- SUBMIT WINDOW refused: the first check that fails names the status, in the order of R62 to R66, the data
bytes are zero, and nothing changes but the lease of an attached sender. -/
def Obligations.SubmitWindowRefusals : Prop :=
  ∀ (m : Master) (trigger : Tag) (pre post : Half) (lanes : LaneSet) (control : Byte) (budget : Half) (label : Byte)
    (s : State) (t : Tag),
    s.Receives m (Command.submitWindow trigger pre post lanes control budget label).frame →
    t = (if control.getLsbD 2 then s.now else trigger) →
      ((s.master m).session = none →
          exec (.submitWindow m trigger pre post lanes control budget label) s = .next (s.reports m [0x03, 0, 0, 0, 0]))
        ∧ ∀ x, (s.master m).session = some x →
          (¬ BudgetOk budget →
            exec (.submitWindow m trigger pre post lanes control budget label) s = .next (s.reports m [0x05, 0, 0, 0, 0]))
          ∧ (BudgetOk budget → ¬ LanesOk lanes x.watchSet →
            exec (.submitWindow m trigger pre post lanes control budget label) s = .next (s.reports m [0x07, 0, 0, 0, 0]))
          ∧ (BudgetOk budget → LanesOk lanes x.watchSet → ¬ TriggerOk s.now t →
            exec (.submitWindow m trigger pre post lanes control budget label) s = .next (s.reports m [0x09, 0, 0, 0, 0]))
          ∧ (BudgetOk budget → LanesOk lanes x.watchSet → TriggerOk s.now t →
            ¬ StartOk s.now (t - pre.setWidth 24) x.horizon →
            exec (.submitWindow m trigger pre post lanes control budget label) s = .next (s.reports m [0x08, 0, 0, 0, 0]))
          ∧ (BudgetOk budget → LanesOk lanes x.watchSet → TriggerOk s.now t → StartOk s.now (t - pre.setWidth 24) x.horizon →
            (∀ i, (s.master m).slot i ≠ none) →
            exec (.submitWindow m trigger pre post lanes control budget label) s = .next (s.reports m [0x06, 0, 0, 0, 0]))

/-- CANCEL: decides CANCELLED where no ending is decided, reports an ending already decided, or NOT_ATTACHED,
RANGE, BAD_SLOT (R72, R73, R74). -/
def Obligations.CancelDecidesCancelled : Prop :=
  ∀ (m : Master) (slot : Byte) (s : State), s.Receives m (Command.cancel slot).frame →
    ((s.master m).session = none → exec (.cancel m slot) s = .next (s.reports m [0x03, 0, 0]))
      ∧ ((s.master m).session ≠ none → 8 ≤ slot.toNat → exec (.cancel m slot) s = .next (s.reports m [0x05, 0, 0]))
      ∧ ∀ i : SlotId, (s.master m).session ≠ none → slot.toNat = i.val →
          ((s.master m).slot i = none → exec (.cancel m slot) s = .next (s.reports m [0x0A, 0, 0]))
          ∧ (∀ r, (s.master m).slot i = some r → r.ending = none → r.state = .active →
              exec (.cancel m slot) s = .next (((s.renewed m).setMaster m (((s.renewed m).master m).setSlot i
                (some { r with ending := some .cancelled, resume := none }))).arbitrate.answered m [0x00, 0x03, 0x82]))
          ∧ (∀ r, (s.master m).slot i = some r → r.ending = none → r.state = .waiting ∨ r.state = .ready →
              exec (.cancel m slot) s = .next (((s.renewed m).setMaster m (((s.renewed m).master m).setSlot i
                (some { r with state := .closing, ending := some .cancelled, resume := none }))).arbitrate.answered m
                  [0x00, 0x04, 0x82]))
          ∧ (∀ r e, (s.master m).slot i = some r → r.ending = some e → r.state = .active ∨ r.state = .closing →
              exec (.cancel m slot) s = .next (s.reports m
                [0x00, if r.state = .active then 0x03 else 0x04,
                 match e with | .complete => 0x80 | .truncated => 0x81 | .cancelled => 0x82 | .expired => 0x83]))

/-- QUERY SLOT reports a slot as it stands, a FREE one as zeros, or NOT_ATTACHED, RANGE (R82, R83, R184). -/
def Obligations.QuerySlotReportsTheSlot : Prop :=
  ∀ (m : Master) (slot : Byte) (s : State), s.Receives m (Command.querySlot slot).frame →
    ((s.master m).session = none → exec (.querySlot m slot) s = .next (s.reports m (0x03 :: List.replicate 9 0)))
      ∧ ((s.master m).session ≠ none → 8 ≤ slot.toNat →
          exec (.querySlot m slot) s = .next (s.reports m (0x05 :: List.replicate 9 0)))
      ∧ ∀ i : SlotId, (s.master m).session ≠ none → slot.toNat = i.val →
          ((s.master m).slot i = none → exec (.querySlot m slot) s = .next (s.reports m (0x00 :: List.replicate 9 0)))
          ∧ ∀ r, (s.master m).slot i = some r →
              exec (.querySlot m slot) s = .next (s.reports m
                (0x00 :: BitVec.ofNat 8
                    ((match r.state with | .waiting => 1 | .ready => 2 | .active => 3 | .closing => 4)
                      + 8 * bit (r.cls == .urgent) + 16 * bit (r.origin == .capture) + 32 * bit r.opened)
                  :: bytesOfTag r.trigger ++ bytesOfHalf (BitVec.ofNat 16 r.itemsWritten)
                  ++ [(match r.resume with
                        | none => 0
                        | some p => BitVec.ofNat 8
                            (128 + 32 * (match p.phase with | .lead => 0 | .records => 1 | .finish => 2) + p.lane.val)),
                      (match r.ending with
                        | none => 0x00 | some .complete => 0x80 | some .truncated => 0x81 | some .cancelled => 0x82
                        | some .expired => 0x83),
                      r.label]))

/-! ### Capture -/

/-- SET TEMPLATE stores the template or is refused, in the order of its checks; CLEAR TEMPLATE makes it absent
and says whether one was present (R85, R86). -/
def Obligations.TemplatesAreStoredAndCleared : Prop :=
  ∀ (m : Master) (lag pre post : Half) (lanes : LaneSet) (control : Byte) (budget : Half) (label : Byte) (s : State),
    (s.Receives m (Command.setTemplate lag pre post lanes control budget label).frame →
        ((s.master m).session = none →
            exec (.setTemplate m lag pre post lanes control budget label) s = .next (s.reports m [0x03]))
        ∧ ∀ x, (s.master m).session = some x →
          (¬ BudgetOk budget → exec (.setTemplate m lag pre post lanes control budget label) s = .next (s.reports m [0x05]))
          ∧ (BudgetOk budget → ¬ LanesOk lanes x.watchSet →
              exec (.setTemplate m lag pre post lanes control budget label) s = .next (s.reports m [0x07]))
          ∧ (BudgetOk budget → LanesOk lanes x.watchSet → x.horizon.toNat < lag.toNat + pre.toNat →
              exec (.setTemplate m lag pre post lanes control budget label) s = .next (s.reports m [0x05]))
          ∧ (BudgetOk budget → LanesOk lanes x.watchSet → lag.toNat + pre.toNat ≤ x.horizon.toNat →
              exec (.setTemplate m lag pre post lanes control budget label) s = .next
                (((s.renewed m).setMaster m { (s.renewed m).master m with
                  template := some ⟨lag, pre, post, lanes, if control.getLsbD 0 then .urgent else .normal, control.getLsbD 1,
                    budget.toNat, label⟩ }).answered m [0x00])))
      ∧ (s.Receives m Command.clearTemplate.frame →
          ((s.master m).session = none → exec (.clearTemplate m) s = .next (s.reports m [0x03, 0x00]))
          ∧ ((s.master m).session ≠ none →
              exec (.clearTemplate m) s = .next
                (((s.renewed m).setMaster m { (s.renewed m).master m with template := none }).answered m
                  [0x00, if (s.master m).template = none then 0x00 else 0x01])))

/-- A level seen on CAPn: a falling or repeated level only becomes the last level; a rising edge is refused
with its reason, counted, and sets REFUSED, or is admitted with a trigger tag lag ticks before *now* (R88, R89,
R91).  The row CAPTURE_EDGE is a high level seen (log 4). -/
def Obligations.CaptureEdgesAreSettled : Prop :=
  ∀ (m : Master) (s : State), s.resetHold = false →
    exec (.capFallingEdge m) s = .next (s.setMaster m { s.master m with capLevel := .low })
      ∧ ((s.master m).capLevel = .high →
          exec (.captureEdge m) s = .next s)
      ∧ ((s.master m).capLevel = .low → (s.master m).session = none →
          exec (.captureEdge m) s = .next (s.setMaster m { s.master m with
            capLevel := .high, refusals := bump (s.master m).refusals, lastRefusal := .notAttached, refused := true }))
      ∧ ((s.master m).capLevel = .low → (s.master m).session ≠ none → (s.master m).template = none →
          exec (.captureEdge m) s = .next (s.setMaster m { s.master m with
            capLevel := .high, refusals := bump (s.master m).refusals, lastRefusal := .noTemplate, refused := true }))
      ∧ ((s.master m).capLevel = .low → (s.master m).session ≠ none → (s.master m).template ≠ none →
          (∀ i, (s.master m).slot i ≠ none) →
          exec (.captureEdge m) s = .next (s.setMaster m { s.master m with
            capLevel := .high, refusals := bump (s.master m).refusals, lastRefusal := .queueFull, refused := true }))
      ∧ (∀ (t : Template) (i : SlotId), (s.master m).capLevel = .low → (s.master m).session ≠ none →
          (s.master m).template = some t → (s.master m).LowestFree i →
          exec (.captureEdge m) s = .next (s.setMaster m
            { (s.master m).setSlot i (some
                (({ state := .waiting, origin := .capture, cls := t.cls, trigger := s.now - t.lag.setWidth 24,
                    pre := t.pre, post := t.post, lanes := t.lanes, leadWanted := t.leadWanted, budget := t.budget,
                    label := t.label, opened := false, itemsWritten := 0, resume := none, ending := none } : Request).testReadiness
                  s.now s.queue)) with
              capLevel := .high, order := (s.master m).order ++ [i] }).arbitrate)

/-! ### Response buffers and flags -/

/-- READ ITEMS fixes the smaller of the count asked for and the count held, or is refused with a count byte of
zero; no item leaves at the taking (R128). -/
def Obligations.ReadItemsFixesItsCount : Prop :=
  ∀ (m : Master) (largest : Byte) (s : State), s.Receives m (Command.readItems largest).frame →
    ((s.master m).session = none → exec (.readItems m largest) s = .next ((s.renewed m).answeredItems m 0x03 0))
      ∧ ((s.master m).session ≠ none → largest.toNat = 0 ∨ 32 < largest.toNat →
          exec (.readItems m largest) s = .next ((s.renewed m).answeredItems m 0x05 0))
      ∧ ((s.master m).session ≠ none → 1 ≤ largest.toNat → largest.toNat ≤ 32 →
          exec (.readItems m largest) s = .next
            (((s.renewed m).setMaster m { (s.renewed m).master m with
              reading := some ⟨min largest.toNat (s.master m).items.length, 0⟩ }).answeredItems m 0x00
                (min largest.toNat (s.master m).items.length)))

/-- A byte of an answer is shifted out: a composed byte, then the bytes of the oldest item; the sixth byte of
a group takes that item out of the buffer; zero once a session end has cut the answer, and zero while a frame
is received or after the last byte (R129, R130, R132, R138, R142). -/
def Obligations.AnswerBytesAreShiftedInOrder : Prop :=
  ∀ (m : Master) (s : State), s.resetHold = false →
    ((s.master m).frame = .deselected → exec (.answerByteShifted m) s = .next s)
      ∧ ((s.master m).frame = .trailing ∨ (∃ got, (s.master m).frame = .receiving got) →
          exec (.answerByteShifted m) s = .next (s.setMaster m { s.master m with sdo := some 0 }))
      ∧ ∀ a : Answer, (s.master m).frame = .answering a → a.shifted < a.head.length + 6 * a.groups →
          (∀ b, (a.cut = true ∧ b = 0 ∨ a.cut = false ∧ a.head[a.shifted]? = some b) →
            exec (.answerByteShifted m) s = .next (s.setMaster m { s.master m with
              sdo := some b
              frame := if a.shifted + 1 < a.head.length + 6 * a.groups then .answering { a with shifted := a.shifted + 1 } else .trailing
              reading := if a.shifted + 1 < a.head.length + 6 * a.groups then (s.master m).reading else none }))
          ∧ (∀ it rest, a.cut = false → a.head.length ≤ a.shifted → (s.master m).items = it :: rest →
              ((a.shifted - a.head.length) % 6 < 5 →
                exec (.answerByteShifted m) s = .next (s.setMaster m { s.master m with
                  sdo := it.bytes[(a.shifted - a.head.length) % 6]?, frame := .answering { a with shifted := a.shifted + 1 } }))
              ∧ ((a.shifted - a.head.length) % 6 = 5 →
                exec (.answerByteShifted m) s = .next (s.setMaster m { s.master m with
                  sdo := it.bytes[5]?
                  items := rest
                  frame := if a.shifted + 1 < a.head.length + 6 * a.groups then .answering { a with shifted := a.shifted + 1 }
                    else .trailing
                  reading := if a.shifted + 1 < a.head.length + 6 * a.groups then
                      (s.master m).reading.map fun p => { p with removed := p.removed + 1 }
                    else none }).arbitrate))

/-- The rest of a group is shifted out: the oldest item leaves the buffer and the answer goes on with the next
group, or ends (R129, R130).  Folding the rest of the group into the row, and doing nothing where no group is left,
are the model's (log 8, log 5). -/
def Obligations.ItemRemovalTakesTheOldest : Prop :=
  ∀ (m : Master) (s : State) (a : Answer), s.resetHold = false → (s.master m).frame = .answering a → a.cut = false →
    (∀ it rest, (s.master m).items = it :: rest → (a.shifted - a.head.length) / 6 < a.groups →
        exec (.itemRemoval m) s = .next (s.setMaster m { s.master m with
          sdo := it.bytes[5]?
          items := rest
          frame := if (a.shifted - a.head.length) / 6 + 1 < a.groups then
              .answering { a with shifted := a.head.length + 6 * ((a.shifted - a.head.length) / 6 + 1) }
            else .trailing
          reading := if (a.shifted - a.head.length) / 6 + 1 < a.groups then
              (s.master m).reading.map fun p => { p with removed := p.removed + 1 }
            else none }).arbitrate)
      ∧ (a.groups ≤ (a.shifted - a.head.length) / 6 → exec (.itemRemoval m) s = .next s)

/-- SET WATERMARK stores a watermark of 1 to 128 in either attach state and answers it, or RANGE (R134); SET MASK
takes the five flag positions of its byte, in either attach state, and answers them (R180). -/
def Obligations.WatermarkAndMaskAreStored : Prop :=
  (∀ (m : Master) (w : Byte) (s : State), s.Receives m (Command.setWatermark w).frame →
      (1 ≤ w.toNat → w.toNat ≤ 128 →
          exec (.setWatermark m w) s = .next
            (((s.renewed m).setMaster m { (s.renewed m).master m with watermark := w.toNat }).answered m [0x00, w]))
        ∧ (w.toNat = 0 ∨ 128 < w.toNat → exec (.setWatermark m w) s = .next (s.reports m [0x05, 0x00])))
    ∧ (∀ (m : Master) (mask : Byte) (s : State), s.Receives m (Command.setMask mask).frame →
        exec (.setMask m mask) s = .next
          (((s.renewed m).setMaster m { (s.renewed m).master m with mask := mask.setWidth 5 }).answered m [0x00, mask &&& 0x1F]))

/-- READ FLAGS reports flags, mask, counts and reasons, and clears nothing (R178, R184); ACK FLAGS clears the latched
flags named, never LEVEL, and answers the flags that remain (R179). -/
def Obligations.FlagsAreReadAndAcknowledged : Prop :=
  (∀ (m : Master) (s : State), s.Receives m Command.readFlags.frame →
      exec (.readFlags m) s = .next (s.reports m
        (0x00 :: BitVec.ofNat 8
            (bit (decide ((s.master m).watermark ≤ (s.master m).items.length)) + 2 * bit (s.master m).closed
              + 4 * bit (s.master m).refused + 8 * bit (s.master m).pressure + 16 * bit (s.master m).ended)
          :: (s.master m).mask.setWidth 8
          :: BitVec.ofNat 8 (s.master m).items.length :: BitVec.ofNat 8 (s.master m).watermark
          :: (match (s.master m).lastEnd with | .detach => 0x01 | .lease => 0x02 | .portReset => 0x03 | .power => 0x04)
          :: bytesOfHalf (s.master m).refusals
          ++ [(match (s.master m).lastRefusal with
                | .none => 0x00 | .notAttached => 0x01 | .noTemplate => 0x02 | .queueFull => 0x03 : Byte)])))
    ∧ (∀ (m : Master) (set : Byte) (s : State), s.Receives m (Command.ackFlags set).frame →
        exec (.ackFlags m set) s = .next
          (((s.renewed m).setMaster m { (s.renewed m).master m with
            closed := (s.master m).closed && !set.getLsbD 1
            refused := (s.master m).refused && !set.getLsbD 2
            pressure := (s.master m).pressure && !set.getLsbD 3
            ended := (s.master m).ended && !set.getLsbD 4 }).answered m
            [0x00, BitVec.ofNat 8
              (bit (decide ((s.master m).watermark ≤ (s.master m).items.length)) + 2 * bit ((s.master m).closed && !set.getLsbD 1)
                + 4 * bit ((s.master m).refused && !set.getLsbD 2) + 8 * bit ((s.master m).pressure && !set.getLsbD 3)
                + 16 * bit ((s.master m).ended && !set.getLsbD 4))]))

/-- INTn is asserted exactly while RST is released and some flag of the master is set and enabled, LEVEL
counting as set while the buffer holds at least the watermark (R175, R177, R183). -/
def Obligations.InterruptFollowsFlagsAndMask : Prop :=
  ∀ (s : State) (m : Master),
    s.intAsserted m = true ↔ s.resetHold = false
      ∧ ((s.master m).watermark ≤ (s.master m).items.length ∧ (s.master m).mask.getLsbD 0 = true
        ∨ (s.master m).closed = true ∧ (s.master m).mask.getLsbD 1 = true
        ∨ (s.master m).refused = true ∧ (s.master m).mask.getLsbD 2 = true
        ∨ (s.master m).pressure = true ∧ (s.master m).mask.getLsbD 3 = true
        ∨ (s.master m).ended = true ∧ (s.master m).mask.getLsbD 4 = true)

/-! ### The claim and the shared settings -/

/-- CLAIM grants a free claim, confirms it to its holder, names the holder to another master, or NOT_ATTACHED
(R159); RELEASE gives up the claim of its holder, or NOT_ATTACHED, NO_CLAIM (R160). -/
def Obligations.ClaimIsHeldByOneMasterAtATime : Prop :=
  (∀ (m : Master) (s : State), s.Receives m Command.claim.frame →
      ((s.master m).session = none → exec (.claim m) s = .next (s.reports m [0x03, 0x00]))
        ∧ ((s.master m).session ≠ none → s.claim = none ∨ s.claim = some m →
            exec (.claim m) s = .next (({ s with claim := some m } : State).reports m [0x00, BitVec.ofNat 8 (128 + m.val)]))
        ∧ (∀ h, (s.master m).session ≠ none → s.claim = some h → h ≠ m →
            exec (.claim m) s = .next (s.reports m [0x0C, BitVec.ofNat 8 (128 + h.val)])))
    ∧ (∀ (m : Master) (s : State), s.Receives m Command.release.frame →
        ((s.master m).session = none → exec (.release m) s = .next (s.reports m [0x03]))
          ∧ ((s.master m).session ≠ none → s.claim ≠ some m → exec (.release m) s = .next (s.reports m [0x0B]))
          ∧ ((s.master m).session ≠ none → s.claim = some m →
              exec (.release m) s = .next (({ s with claim := none } : State).reports m [0x00])))

/-- The six claim-only commands from a detached sender are answered NOT_ATTACHED, and from an attached sender
that does not hold the claim NO_CLAIM, before any parameter is looked at; nothing changes but the lease (R163). -/
def Obligations.ClaimOnlyCommandsNeedTheClaim : Prop :=
  ∀ (m : Master) (s : State) (c : Command),
    ((∃ l e d k, c = .laneSetup l e d k) ∨ (∃ ls, c = .purgeLanes ls) ∨ (∃ src d, c = .setTickSource src d)
        ∨ (∃ ls d, c = .clearCounters ls d) ∨ (∃ l, c = .testCheck l) ∨ (∃ l k, c = .partition l k)) →
    s.Receives m c.frame →
      ((s.master m).session = none →
          exec (rowOf m c) s = .next (s.reports m (0x03 :: match c with | .partition .. => [0, 0] | _ => [])))
        ∧ ((s.master m).session ≠ none → s.claim ≠ some m →
          exec (rowOf m c) s = .next (s.reports m (0x0B :: match c with | .partition .. => [0, 0] | _ => [])))

/-- LANE SETUP from the holder stores the three settings and touches nothing else of the lane, or RANGE, or TOO_SMALL
for enabling a lane below 4 places (R165); TEST CHECK from the holder sets the lane's check-test arm, whatever the
lane, or RANGE (R38, R172). -/
def Obligations.LaneSettingsAndTheArmAreStored : Prop :=
  (∀ (m : Master) (lane enable : Byte) (deadband keepalive : Half) (s : State),
      s.Receives m (Command.laneSetup lane enable deadband keepalive).frame →
      (s.master m).session ≠ none → s.claim = some m →
        (16 ≤ lane.toNat → exec (.laneSetup m lane enable deadband keepalive) s = .next (s.reports m [0x05]))
          ∧ ∀ l : LaneId, lane.toNat = l.val →
            (enable.getLsbD 0 = true → (s.lane l).capacity < 4 →
              exec (.laneSetup m lane enable deadband keepalive) s = .next (s.reports m [0x0F]))
            ∧ (enable.getLsbD 0 = false ∨ 4 ≤ (s.lane l).capacity →
              exec (.laneSetup m lane enable deadband keepalive) s = .next
                ((s.setLane l { s.lane l with
                  enabled := enable.getLsbD 0, deadband := deadband, keepalive := keepalive }).reports m [0x00])))
    ∧ (∀ (m : Master) (lane : Byte) (s : State), s.Receives m (Command.testCheck lane).frame →
        (s.master m).session ≠ none → s.claim = some m →
          (16 ≤ lane.toNat → exec (.testCheck m lane) s = .next (s.reports m [0x05]))
            ∧ ∀ l : LaneId, lane.toNat = l.val →
              exec (.testCheck m lane) s = .next ((s.setLane l { s.lane l with checkArm := true }).reports m [0x00]))

/-- PARTITION from the holder empties the lane and sets its capacity, answering the pool it leaves, or RANGE,
ENABLED, IN_USE, NO_ROOM with the pool as it is (R15, R167, R168). -/
def Obligations.PartitionMovesPlaces : Prop :=
  ∀ (m : Master) (lane : Byte) (capacity : Half) (s : State), s.Receives m (Command.partition lane capacity).frame →
    (s.master m).session ≠ none → s.claim = some m →
      (16 ≤ lane.toNat ∨ (1 ≤ capacity.toNat ∧ capacity.toNat < 4) ∨ 2048 < capacity.toNat →
          exec (.partition m lane capacity) s = .next (s.reports m [0x05, 0, 0]))
        ∧ ∀ l : LaneId, lane.toNat = l.val → capacity.toNat = 0 ∨ (4 ≤ capacity.toNat ∧ capacity.toNat ≤ 2048) →
          ((s.lane l).enabled = true → exec (.partition m lane capacity) s = .next (s.reports m [0x10, 0, 0]))
          ∧ ((s.lane l).enabled = false →
              (∃ n i r, (s.master n).slot i = some r ∧ r.lanes.getLsbD l = true) →
              exec (.partition m lane capacity) s = .next (s.reports m [0x0D, 0, 0]))
          ∧ ((s.lane l).enabled = false → (∀ n i r, (s.master n).slot i = some r → r.lanes.getLsbD l = false) →
              (s.lane l).capacity + (4096 - (allLanes.map fun k => (s.lane k).capacity).sum) < capacity.toNat →
              exec (.partition m lane capacity) s = .next (s.reports m
                (0x0E :: bytesOfHalf (BitVec.ofNat 16 (4096 - (allLanes.map fun k => (s.lane k).capacity).sum)))))
          ∧ ((s.lane l).enabled = false → (∀ n i r, (s.master n).slot i = some r → r.lanes.getLsbD l = false) →
              (allLanes.map fun k => (s.lane k).capacity).sum ≤ 4096 →
              capacity.toNat ≤ (s.lane l).capacity + (4096 - (allLanes.map fun k => (s.lane k).capacity).sum) →
              exec (.partition m lane capacity) s = .next
                ((s.setLane l { s.lane l with
                  records := [], openGap := none, lossMark := false, capacity := capacity.toNat }).reports m
                  (0x00 :: bytesOfHalf (BitVec.ofNat 16
                    ((s.lane l).capacity + (4096 - (allLanes.map fun k => (s.lane k).capacity).sum) - capacity.toNat)))))

/-- PURGE LANES from the holder empties every lane of the set and no other, or IN_USE with none emptied (R39,
R169). -/
def Obligations.PurgeEmptiesAllOrNothing : Prop :=
  ∀ (m : Master) (lanes : LaneSet) (s : State), s.Receives m (Command.purgeLanes lanes).frame →
    (s.master m).session ≠ none → s.claim = some m →
      ((∃ (l : LaneId) (n : Master) (i : SlotId) (r : Request),
            lanes.getLsbD l = true ∧ (s.master n).slot i = some r ∧ r.lanes.getLsbD l = true) →
          exec (.purgeLanes m lanes) s = .next (s.reports m [0x0D]))
        ∧ ((∀ (l : LaneId) (n : Master) (i : SlotId) (r : Request),
              lanes.getLsbD l = true → (s.master n).slot i = some r → r.lanes.getLsbD l = false) →
            ∃ t : State, exec (.purgeLanes m lanes) s = .next (t.reports m [0x00]) ∧ t = { s with lanes := t.lanes }
              ∧ ∀ l : LaneId, t.lane l =
                  if lanes.getLsbD l then { s.lane l with records := [], openGap := none, lossMark := false } else s.lane l)

/-- SET TICK SOURCE from the holder stores source and divisor and restarts the divider count, *now* unchanged,
or RANGE for a byte that names no source (R5, R170).  Once it is taken, an expiry of the divider that fell together
with it brings no tick (R6); with the DIVIDED source and a divisor of 1 the count reaches D again in the very next
period, so there the row is that period's expiry (log 2). -/
def Obligations.SetTickSourceRestartsTheDivider : Prop :=
  ∀ (m : Master) (source : Byte) (divisor : Half) (s : State), s.Receives m (Command.setTickSource source divisor).frame →
    (s.master m).session ≠ none → s.claim = some m →
      (source.toNat ≤ 1 →
          exec (.setTickSource m source divisor) s = .next
            (({ s with
                tickSource := if source = 0 then .external else .divided
                divisor := if divisor = 0 then 65536 else divisor.toNat
                dividerCount := 0 } : State).reports m [0x00]))
        ∧ (1 < source.toNat → exec (.setTickSource m source divisor) s = .next (s.reports m [0x05]))
        ∧ (source.toNat ≤ 1 → source = 0 ∨ divisor ≠ 1 →
            ∀ t : State, exec (.setTickSource m source divisor) s = .next t → exec .dividerExpiry t = .next t)

/-- CLEAR COUNTERS from the holder clears the five counters of each lane of the set, and the device's when its
second byte says yes, or RANGE for a byte that means neither (R40, R56, R171). -/
def Obligations.ClearCountersClearsWhatIsNamed : Prop :=
  ∀ (m : Master) (lanes : LaneSet) (device : Byte) (s : State), s.Receives m (Command.clearCounters lanes device).frame →
    (s.master m).session ≠ none → s.claim = some m →
      (1 < device.toNat → exec (.clearCounters m lanes device) s = .next (s.reports m [0x05]))
        ∧ (device.toNat ≤ 1 →
            ∃ t : State, exec (.clearCounters m lanes device) s = .next (t.reports m [0x00])
              ∧ t = { s with
                  lanes := t.lanes
                  framingErrors := if device = 1 then 0 else s.framingErrors
                  parityErrors := if device = 1 then 0 else s.parityErrors
                  disabledDiscards := if device = 1 then 0 else s.disabledDiscards
                  queueOverflows := if device = 1 then 0 else s.queueOverflows }
              ∧ ∀ l : LaneId, t.lane l =
                  if lanes.getLsbD l then
                    { s.lane l with stored := 0, suppressed := 0, lost := 0, restated := 0, corrupt := 0 }
                  else s.lane l)

/-! ### Ports -/

/-- A frame with a bad sum is counted and answered BAD_CHECK without any other effect; a frame of an unknown
code is answered UNKNOWN and renews the lease alone (R139, R140, R149). -/
def Obligations.BadAndUnknownFramesOnlyAnswer : Prop :=
  ∀ (m : Master) (s : State),
    (∀ frame, wellSizedFrame frame = true → byteSum frame ≠ 0 → s.Receives m frame →
        exec (.badCheckFrame m frame) s = .next
          ((s.setMaster m { s.master m with badChecks := bump (s.master m).badChecks }).answered m [0x01]))
      ∧ (∀ code, knownCode code = false → s.Receives m [code, 0 - code] →
          exec (.unknownCodeFrame m code) s = .next (s.reports m [0x02]))

/-- A selection begins a frame on a deselected port; its end deselects from any state, counts a frame cut short
after a whole byte, and leaves the items of an answer cut short in the buffer (R131, R137, R141).  That a begin on
a selected port does nothing is the model's choice (log 5). -/
def Obligations.SelectionsBeginAndEnd : Prop :=
  ∀ (m : Master) (s : State), s.resetHold = false →
    ((s.master m).frame = .deselected →
        exec (.selectionBegin m) s = .next (s.setMaster m { s.master m with frame := .receiving [], sdo := some 0 }))
      ∧ ((s.master m).frame ≠ .deselected → exec (.selectionBegin m) s = .next s)
      ∧ (∀ b got, (s.master m).frame = .receiving (b :: got) →
          exec (.selectionEnd m) s = .next (s.setMaster m { s.master m with
            frame := .deselected, sdo := none, reading := none, frameErrors := bump (s.master m).frameErrors }))
      ∧ ((∀ b got, (s.master m).frame ≠ .receiving (b :: got)) →
          exec (.selectionEnd m) s = .next (s.setMaster m { s.master m with
            frame := .deselected, sdo := none, reading := none }))

/-! ### The acquisition link and the lanes -/

/-- An arriving frame is judged for parity, then for its lane, then for room; dropped and counted at the first
that fails, with a loss mark for the last, or stamped with *now* and queued (R47 to R51, R55).  Folding the
remaining edges into the row is the model's reading (log 7). -/
def Obligations.SampleFramesAreJudged : Prop :=
  ∀ (s : State) (q : Level) (f : BitVec 22) (l : LaneId), s.resetHold = false → l.val = f.toNat / 262144 →
    (s.assembly = .idle ∧ s.qsynLevel = .low
      ∨ ∃ got, s.assembly = .assembling got ∧ got <+: bitsOfFrame f ∧ got.length < 22
          ∧ ¬ (s.qsynLevel = .low ∧ q = .high)) →
      ((List.range 22).countP f.getLsbD % 2 = 0 →
          exec (.sampleFrameArrival q f) s = .next
            { s with assembly := .idle, qsynLevel := q, parityErrors := bump s.parityErrors })
        ∧ ((List.range 22).countP f.getLsbD % 2 = 1 → (s.lane l).enabled = false →
            exec (.sampleFrameArrival q f) s = .next
              { s with assembly := .idle, qsynLevel := q, disabledDiscards := bump s.disabledDiscards })
        ∧ ((List.range 22).countP f.getLsbD % 2 = 1 → (s.lane l).enabled = true → 16 ≤ s.queue.length →
            exec (.sampleFrameArrival q f) s = .next
              { s.setLane l { s.lane l with lossMark := true } with
                assembly := .idle, qsynLevel := q, queueOverflows := bump s.queueOverflows })
        ∧ ((List.range 22).countP f.getLsbD % 2 = 1 → (s.lane l).enabled = true → s.queue.length < 16 →
            exec (.sampleFrameArrival q f) s = .next
              { s with
                assembly := .idle, qsynLevel := q
                queue := s.queue ++ [⟨l, f.extractLsb' 2 16, f.getLsbD 1, s.now⟩] })

/-- An edge of QCLK: high after low starts a frame with its bit, cutting a partial frame short; any other adds
its bit while assembling, and the 22nd bit makes the frame arrive (R44, R45, R46).  The rows FRAME_START and
PARTIAL_FRAME_DISCARD are edges with QSYN high (log 4). -/
def Obligations.ClockEdgesAssembleFrames : Prop :=
  ∀ (s : State) (q : Level) (d : Bool), s.resetHold = false →
    exec (.frameStart d) s = exec (.linkBitSampled .high d) s
      ∧ exec (.partialFrameDiscard d) s = exec (.linkBitSampled .high d) s
      ∧ (s.qsynLevel = .low → s.assembly = .idle →
          exec (.frameStart d) s = .next { s with qsynLevel := .high, assembly := .assembling [d] })
      ∧ (∀ bits, s.qsynLevel = .low → s.assembly = .assembling bits →
          exec (.partialFrameDiscard d) s = .next
            { s with qsynLevel := .high, assembly := .assembling [d], framingErrors := bump s.framingErrors })
      ∧ (s.qsynLevel = .high ∨ q = .low →
          (s.assembly = .idle → exec (.linkBitSampled q d) s = .next { s with qsynLevel := q })
          ∧ (∀ bits, s.assembly = .assembling bits → bits.length < 21 →
              exec (.linkBitSampled q d) s = .next { s with qsynLevel := q, assembly := .assembling (bits ++ [d]) })
          ∧ (∀ bits f, s.assembly = .assembling bits → bitsOfFrame f = bits ++ [d] →
              exec (.linkBitSampled q d) s = exec (.sampleFrameArrival q f) s))

/-- A frame of a lane with an open gap: at the gap's last lost tag it only raises the counts; with two places
obtainable the gap is recorded and the SAMPLE appended, oldest unprotected records going first; with fewer the
gap is extended to the frame's tag (R28, R29, R30, R37). -/
def Obligations.StoreIntoAnOpenGap : Prop :=
  ∀ (s : State) (f : Frame) (rest : List Frame) (x : Lane) (g : OpenGap) (places : Nat), s.resetHold = false →
    s.queue = f :: rest → x = s.lane f.lane → x.capacity ≠ 0 → x.openGap = some g →
    places = (x.capacity - x.records.length) + unprotectedCount s.now (s.protectAge f.lane) x.records →
      (f.tag = g.lastLost →
          exec .storeCompletion s = .next (s.afterStore f.lane
            { x with openGap := some { g with lostCount := bump g.lostCount }, lost := bump x.lost } rest))
        ∧ (f.tag ≠ g.lastLost → places < 2 →
          exec .storeCompletion s = .next (s.afterStore f.lane
            { x with openGap := some { g with lastLost := f.tag, lostCount := bump g.lostCount }, lost := bump x.lost } rest))
        ∧ (f.tag ≠ g.lastLost → 2 ≤ places →
          exec .storeCompletion s = .next (s.afterStore f.lane
            { x with
              records := x.records.drop (2 - (x.capacity - x.records.length))
                ++ [.gap g.firstLost g.lastLost g.lostCount (!x.checkArm), .sample f.tag f.value false x.lossMark true]
              openGap := none, lossMark := false, checkArm := false, stored := bump x.stored } rest))

/-- A frame with the newest record's tag replaces its value; an unforced frame within the deadband with the
keepalive not due is suppressed and only counted (R31, R32, R37). -/
def Obligations.StoreRestatesOrSuppresses : Prop :=
  ∀ (s : State) (f : Frame) (rest : List Frame) (x : Lane) (older : List Record) (k : Tag) (v : Half) (rs al ok : Bool),
    s.resetHold = false → s.queue = f :: rest → x = s.lane f.lane → x.capacity ≠ 0 → x.openGap = none →
    x.records = older ++ [.sample k v rs al ok] →
      (k = f.tag →
          exec .storeCompletion s = .next (s.afterStore f.lane
            { x with
              records := older ++ [.sample k f.value (rs || decide (f.value ≠ v)) al (!x.checkArm)]
              checkArm := false
              restated := if f.value = v then x.restated else bump x.restated } rest))
        ∧ (k ≠ f.tag → f.force = false → (f.value.toInt - v.toInt).natAbs ≤ x.deadband.toNat →
            x.keepalive = 0 ∨ (s.now - k).toNat < x.keepalive.toNat →
          exec .storeCompletion s = .next (s.afterStore f.lane { x with suppressed := bump x.suppressed } rest))

/-- A frame that no earlier step settles is appended where a place can be obtained, the oldest record leaving a
full lane; where none can, it opens the lane's gap and raises PRESSURE for every attached master that watches
the lane.  At capacity 0 it is discarded and counted (R27, R33, R34, R37). -/
def Obligations.StoreAppendsOrOpensAGap : Prop :=
  ∀ (s : State) (f : Frame) (rest : List Frame) (x : Lane) (places : Nat), s.resetHold = false →
    s.queue = f :: rest → x = s.lane f.lane →
    places = (x.capacity - x.records.length) + unprotectedCount s.now (s.protectAge f.lane) x.records →
      (x.capacity = 0 →
          exec .storeCompletion s = .next
            ({ s with queue := rest, disabledDiscards := bump s.disabledDiscards } : State).testReadiness.arbitrate)
        ∧ (x.capacity ≠ 0 → x.openGap = none →
            (∀ k v rs al ok, x.records.getLast? = some (.sample k v rs al ok) →
              k ≠ f.tag ∧ (f.force = true ∨ x.deadband.toNat < (f.value.toInt - v.toInt).natAbs
                ∨ x.keepalive ≠ 0 ∧ x.keepalive.toNat ≤ (s.now - k).toNat)) →
            (1 ≤ places →
              exec .storeCompletion s = .next (s.afterStore f.lane
                { x with
                  records := x.records.drop (1 - (x.capacity - x.records.length))
                    ++ [.sample f.tag f.value false x.lossMark (!x.checkArm)]
                  lossMark := false, checkArm := false, stored := bump x.stored } rest))
            ∧ (places = 0 →
              exec .storeCompletion s = .next
                (({ s with
                    masters := s.masters.map fun y =>
                      if y.session.any (fun w => w.watchSet.getLsbD f.lane) then { y with pressure := true } else y } : State).afterStore
                  f.lane { x with openGap := some ⟨f.tag, f.tag, 1⟩, lost := bump x.lost } rest)))

/-- The protect age of a lane is the largest contribution of the attached sessions that watch it and of the
slots, with no ending decided, that name it, and is absent without one; the unprotected records are those older
than the newest record whose age exceeds it (R23, R24). -/
def Obligations.ProtectionKeepsTheAnchor : Prop :=
  (∀ (s : State) (l : LaneId),
      (s.protectAge l = none ↔ ∀ p, ¬ s.Contributes l p)
        ∧ ∀ p, s.protectAge l = some p ↔ s.Contributes l p ∧ ∀ q, s.Contributes l q → q ≤ p)
    ∧ ∀ (now : Tag) (p : Nat) (rs : List Record),
        unprotectedCount now none rs = rs.length
          ∧ ((∀ r ∈ rs, (now - r.key).toNat ≤ p) → unprotectedCount now (some p) rs = 0)
          ∧ ∀ older anchor newer, rs = older ++ anchor :: newer → p < (now - anchor.key).toNat →
              (∀ r ∈ newer, (now - r.key).toNat ≤ p) → unprotectedCount now (some p) rs = older.length

/-- READ LANE reports the lane as it stands and changes nothing of it, or RANGE (R41, R42, R184). -/
def Obligations.ReadLaneReportsTheLane : Prop :=
  ∀ (m : Master) (lane : Byte) (s : State), s.Receives m (Command.readLane lane).frame →
    (16 ≤ lane.toNat → exec (.readLane m lane) s = .next (s.reports m (0x05 :: List.replicate 36 0)))
      ∧ ∀ (l : LaneId) (x : Lane), lane.toNat = l.val → x = s.lane l →
          exec (.readLane m lane) s = .next (s.reports m
            (0x00 :: BitVec.ofNat 8
                (bit x.enabled + 2 * bit (!x.records.isEmpty) + 4 * bit (!x.records.isEmpty) + 8 * bit (s.protectAge l).isSome
                  + 16 * bit x.openGap.isSome + 32 * bit x.lossMark)
              :: bytesOfHalf (BitVec.ofNat 16 x.capacity) ++ bytesOfHalf (BitVec.ofNat 16 x.records.length)
              ++ bytesOfTag (match x.records.head? with | some r => r.key | none => 0)
              ++ bytesOfTag (match x.records.getLast? with | some r => r.key | none => 0)
              ++ bytesOfTag (match s.protectAge l with | some p => BitVec.ofNat 24 p | none => 0)
              ++ (match x.openGap with
                  | some g => bytesOfTag g.firstLost ++ bytesOfTag g.lastLost ++ bytesOfHalf g.lostCount
                  | none => List.replicate 8 (0 : Byte))
              ++ bytesOfHalf x.deadband ++ bytesOfHalf x.keepalive ++ bytesOfHalf x.stored ++ bytesOfHalf x.suppressed
              ++ bytesOfHalf x.lost ++ bytesOfHalf x.restated ++ bytesOfHalf x.corrupt))

/-! ### The extraction engine -/

/-- Arbitration of the IDLE engine: URGENT before NORMAL, then the first master after the class's pointer that has
an eligible slot, then the slot earliest in its admission order; the class's pointer moves to that master.  With
nothing eligible nothing changes (R96 to R98). -/
def Obligations.ArbitrationByClassRotationAndOrder : Prop :=
  ∀ s : State, s.resetHold = false → s.serving = none →
    ((∀ m c i, ¬ (s.master m).Eligible c i) → s.arbitrate = s)
      ∧ (∀ (m : Master) (i : SlotId) (before after : List SlotId), (s.master m).Eligible .urgent i →
          (∀ n : Master, (n - (s.urgentPtr + 1)).val < (m - (s.urgentPtr + 1)).val → ∀ j, ¬ (s.master n).Eligible .urgent j) →
          (s.master m).order = before ++ i :: after → (∀ j ∈ before, ¬ (s.master m).Eligible .urgent j) →
          s.arbitrate = ({ s with urgentPtr := m } : State).select m i)
      ∧ (∀ (m : Master) (i : SlotId) (before after : List SlotId), (s.master m).Eligible .normal i →
          (∀ n j, ¬ (s.master n).Eligible .urgent j) →
          (∀ n : Master, (n - (s.normalPtr + 1)).val < (m - (s.normalPtr + 1)).val → ∀ j, ¬ (s.master n).Eligible .normal j) →
          (s.master m).order = before ++ i :: after → (∀ j ∈ before, ¬ (s.master m).Eligible .normal j) →
          s.arbitrate = ({ s with normalPtr := m } : State).select m i)

/-- The first item of a service: a CLOSE for a slot that carries an ending, an OPEN for one not opened, and for an
opened one COMPLETE when the search finds nothing, TRUNCATED when the budget is spent with something left, else
the item found; the slot becomes ACTIVE with that item in flight (R77, R100, R101, R107, R108, R119). -/
def Obligations.SelectionStartsTheFirstItem : Prop :=
  ∀ (s : State) (m : Master) (i : SlotId) (r : Request), (s.master m).slot i = some r →
    (∀ e, r.ending = some e →
        s.select m i =
          { s.setMaster m ((s.master m).setSlot i (some { r with state := .active })) with
            serving := some ⟨m, i, ⟨.close i r.label e r.itemsWritten, none⟩⟩ })
      ∧ (r.ending = none → r.opened = false →
          s.select m i =
            { s.setMaster m ((s.master m).setSlot i (some { r with state := .active })) with
              serving := some ⟨m, i,
                ⟨.opened i r.origin r.cls r.leadWanted r.label r.trigger ((List.range 16).countP r.lanes.getLsbD),
                  some ⟨lowestLane r.lanes, .lead, none, false⟩⟩⟩ })
      ∧ (r.ending = none → r.opened = true →
          (s.search i r = none →
            s.select m i =
              { s.setMaster m ((s.master m).setSlot i
                  (some { r with state := .active, ending := some .complete, resume := none })) with
                serving := some ⟨m, i, ⟨.close i r.label .complete r.itemsWritten, none⟩⟩ })
          ∧ (∀ f, s.search i r = some f → r.itemsWritten = r.budget →
            s.select m i =
              { s.setMaster m ((s.master m).setSlot i
                  (some { r with state := .active, ending := some .truncated, resume := none })) with
                serving := some ⟨m, i, ⟨.close i r.label .truncated r.itemsWritten, none⟩⟩ })
          ∧ (∀ f, s.search i r = some f → r.itemsWritten ≠ r.budget →
            s.select m i =
              { s.setMaster m ((s.master m).setSlot i (some { r with state := .active })) with serving := some ⟨m, i, f⟩ }))

/-- The completion of a CLOSE: the item joins the buffer, the slot becomes FREE and leaves the admission order,
CLOSED is set, and the IDLE engine arbitrates (R78, R101, R119, R126, R176).  With the engine IDLE no item is in
flight, and the row then does nothing, which is the model's choice (log 5). -/
def Obligations.CloseCompletionFreesTheSlot : Prop :=
  ∀ (s : State), s.resetHold = false →
    (s.serving = none → exec .itemCompletion s = .next s)
      ∧ ∀ (m : Master) (i k : SlotId) (label : Byte) (e : Ending) (n : Nat) (after : Option Resume),
          s.serving = some ⟨m, i, ⟨.close k label e n, after⟩⟩ →
          exec .itemCompletion s = .next
            ({ s.setMaster m
                { (s.master m).setSlot i none with
                  items := (s.master m).items ++ [.close k label e n]
                  order := (s.master m).order.erase i
                  closed := true } with
              serving := none } : State).arbitrate

/-- The completion of any other item, `t` being the part with the item appended and a CORRUPT item counted, and
`q` the slot with its progress: the decisions of the item boundary in their order (R60, R101, R103 to R107, R113,
R116). -/
def Obligations.ItemBoundaryDecisions : Prop :=
  ∀ (s t : State) (m : Master) (i : SlotId) (f : Flight) (r q : Request), s.resetHold = false →
    s.serving = some ⟨m, i, f⟩ → (s.master m).slot i = some r → f.item.isClose = false →
    q = { r with
      opened := r.opened || f.item.isOpen
      itemsWritten := if f.item.isOpen = true then r.itemsWritten else r.itemsWritten + 1
      resume := if r.ending = none then f.after else r.resume } →
    t = (match f.item with
      | .corrupt _ l .. =>
          (s.setMaster m { s.master m with items := (s.master m).items ++ [f.item] }).setLane l
            { s.lane l with corrupt := bump (s.lane l).corrupt }
      | _ => s.setMaster m { s.master m with items := (s.master m).items ++ [f.item] }) →
      (∀ e, r.ending = some e → (s.master m).items.length < 127 →
          exec .itemCompletion s = .next
            { t.setMaster m ((t.master m).setSlot i (some { q with state := .active })) with
              serving := some ⟨m, i, ⟨.close i r.label e q.itemsWritten, none⟩⟩ })
        ∧ (∀ e, r.ending = some e → 127 ≤ (s.master m).items.length →
          exec .itemCompletion s = .next
            ({ t.setMaster m ((t.master m).setSlot i (some { q with state := .closing })) with serving := none } : State).arbitrate)
        ∧ (r.ending = none →
            (127 ≤ (s.master m).items.length
              ∨ r.cls = .normal ∧ ∃ n j, (t.master n).Eligible .urgent j) →
          exec .itemCompletion s = .next
            ({ t.setMaster m ((t.master m).setSlot i (some { q with state := .ready })) with serving := none } : State).arbitrate)
        ∧ (r.ending = none → (s.master m).items.length < 127 →
            (r.cls = .urgent ∨ ∀ n j, ¬ (t.master n).Eligible .urgent j) →
            (t.search i q = none →
              exec .itemCompletion s = .next
                { t.setMaster m ((t.master m).setSlot i
                    (some { q with state := .active, ending := some .complete, resume := none })) with
                  serving := some ⟨m, i, ⟨.close i r.label .complete q.itemsWritten, none⟩⟩ })
            ∧ (∀ g, t.search i q = some g → q.itemsWritten = q.budget →
              exec .itemCompletion s = .next
                { t.setMaster m ((t.master m).setSlot i
                    (some { q with state := .active, ending := some .truncated, resume := none })) with
                  serving := some ⟨m, i, ⟨.close i r.label .truncated q.itemsWritten, none⟩⟩ })
            ∧ (∀ g, t.search i q = some g → q.itemsWritten ≠ q.budget →
              exec .itemCompletion s = .next
                { t.setMaster m ((t.master m).setSlot i (some { q with state := .active })) with
                  serving := some ⟨m, i, g⟩ }))

/-- What a search finds, and what each item reports.  Every SAMPLE item reports a record of its lane, one of the
request's lanes or the resume point's: its value and flags, with the signed distance from the trigger tag, between
-pre and +post (R12, R111, R114).  The LEAD phase looks at the newest record before the window: LEAD, GAP with
began-before set, CORRUPT where the check disagrees, or nothing and the RECORDS phase follows (R110, R113 to R115);
that a gap recorded while the slot was set aside is decided so too is the model's reading of R117 (log 19).
The RECORDS phase gives the oldest record in the window after the last key tag, and with none left the FINISH phase
follows (R111, R113 to R115).  The FINISH phase gives the open gap that reaches the window and is not passed, else
EMPTY for a lane that contributed nothing, else nothing (R112, R115).  Each item sets the resume point of R116.  The
search takes the current lane from the resume point, then the next lane of the set in ascending number (R109). -/
def Obligations.SampleItemsReportRecordsInTheWindow : Prop :=
  (∀ (s : State) (i k : SlotId) (r : Request) (l : LaneId) (o : Int) (v : Half) (rs al : Bool) (after : Option Resume),
    s.search i r = some ⟨.sample k l o v rs al, after⟩ →
      k = i ∧ -(r.pre.toNat : Int) ≤ o ∧ o ≤ r.post.toNat
        ∧ (r.lanes.getLsbD l = true ∨ l = r.position.lane)
        ∧ .sample (r.trigger + BitVec.ofInt 24 o) v rs al true ∈ (s.lane l).records
        ∧ after = some ⟨l, .records, some (r.trigger + BitVec.ofInt 24 o), true⟩)
    ∧ (∀ (now : Tag) (i : SlotId) (r : Request) (x : Lane) (l : LaneId) (last : Option Tag) (b : Bool),
      -- LEAD
      (∀ older newer lead, x.records = older ++ lead :: newer → r.BeforeWindow lead.key →
          (∀ d ∈ newer, ¬ r.BeforeWindow d.key) →
        match lead with
        | .sample k v rs al ok =>
            (r.leadWanted = true →
                searchLane now i r x ⟨l, .lead, last, b⟩ =
                  some ⟨if ok = true then .lead i l (max (tagOffset now k r.trigger) (-65536)) v rs al
                      else .corrupt i l false (max (tagOffset now k r.trigger) (-65536)) v,
                    some ⟨l, .records, none, true⟩⟩)
              ∧ (r.leadWanted = false →
                searchLane now i r x ⟨l, .lead, last, b⟩ = searchLane now i r x ⟨l, .records, last, b⟩)
        | .gap k lastLost n ok =>
            (r.leadWanted = true ∨ ¬ r.BeforeWindow lastLost →
                searchLane now i r x ⟨l, .lead, last, b⟩ =
                  some ⟨if ok = true then .gap i l (-(r.pre.toNat : Int)) n true false
                      else .corrupt i l true (max (tagOffset now k r.trigger) (-65536)) 0,
                    some ⟨l, .records, none, true⟩⟩)
              ∧ (r.leadWanted = false → r.BeforeWindow lastLost →
                searchLane now i r x ⟨l, .lead, last, b⟩ = searchLane now i r x ⟨l, .records, last, b⟩))
      ∧ ((∀ d ∈ x.records, ¬ r.BeforeWindow d.key) →
          searchLane now i r x ⟨l, .lead, last, b⟩ = searchLane now i r x ⟨l, .records, last, b⟩)
      -- RECORDS
      ∧ (∀ older newer c, x.records = older ++ c :: newer →
          r.InWindow c.key → (∀ k, last = some k → TagBefore now k c.key) →
          (∀ d ∈ older, r.InWindow d.key → ∃ k, last = some k ∧ ¬ TagBefore now k d.key) →
          searchLane now i r x ⟨l, .records, last, b⟩ =
            some ⟨match c with
                | .sample k v rs al true => .sample i l (tagOffset now k r.trigger) v rs al
                | .gap k _ n true => .gap i l (tagOffset now k r.trigger) n false false
                | .sample k v _ _ false => .corrupt i l false (tagOffset now k r.trigger) v
                | .gap k _ _ false => .corrupt i l true (tagOffset now k r.trigger) 0,
              some ⟨l, .records, some c.key, true⟩⟩)
      ∧ ((∀ d ∈ x.records, r.InWindow d.key → ∃ k, last = some k ∧ ¬ TagBefore now k d.key) →
          searchLane now i r x ⟨l, .records, last, b⟩ = searchLane now i r x ⟨l, .finish, last, b⟩)
      -- FINISH
      ∧ (∀ g, x.openGap = some g → (∀ k, last = some k → TagBefore now k g.firstLost) →
          (r.InWindow g.firstLost →
              searchLane now i r x ⟨l, .finish, last, b⟩ =
                some ⟨.gap i l (tagOffset now g.firstLost r.trigger) g.lostCount false true,
                  some ⟨l, .finish, some g.firstLost, true⟩⟩)
            ∧ (r.BeforeWindow g.firstLost →
              searchLane now i r x ⟨l, .finish, last, b⟩ =
                some ⟨.gap i l (-(r.pre.toNat : Int)) g.lostCount true true,
                  some ⟨l, .finish, some g.firstLost, true⟩⟩))
      ∧ ((∀ g, x.openGap = some g → r.InWindow g.firstLost ∨ r.BeforeWindow g.firstLost →
            ∃ k, last = some k ∧ ¬ TagBefore now k g.firstLost) →
          searchLane now i r x ⟨l, .finish, last, b⟩ =
            if b = true then none else some ⟨.empty i l, some ⟨l, .finish, none, true⟩⟩))
    -- the lanes in their order
    ∧ ∀ (s : State) (i : SlotId) (r : Request) (p : Resume), r.resume = some p →
        (∀ f, searchLane s.now i r (s.lane p.lane) p = some f → s.search i r = some f)
          ∧ (searchLane s.now i r (s.lane p.lane) p = none →
              (∀ l : LaneId, r.lanes.getLsbD l = true → p.lane < l →
                  (∀ k : LaneId, r.lanes.getLsbD k = true → p.lane < k → l ≤ k) →
                  s.search i r = searchLane s.now i r (s.lane l) ⟨l, .lead, none, false⟩)
                ∧ ((∀ l : LaneId, r.lanes.getLsbD l = true → l ≤ p.lane) → s.search i r = none))

/-- A lane entered by the search gives at least one item, and gives EMPTY exactly when nothing of it reaches the
window: no lead that is reported, no record in the window, no open gap in the window or before it (R109 to R112). -/
def Obligations.EmptyItemsStandForNothingElse : Prop :=
  ∀ (now : Tag) (i : SlotId) (r : Request) (x : Lane) (l : LaneId),
    searchLane now i r x ⟨l, .lead, none, false⟩ ≠ none
      ∧ ((searchLane now i r x ⟨l, .lead, none, false⟩ = some ⟨.empty i l, some ⟨l, .finish, none, true⟩⟩) ↔
          leadPhase now i r l x = none
            ∧ (∀ c ∈ x.records, r.pre.toNat + r.post.toNat < (c.key - (r.trigger - r.pre.setWidth 24)).toNat)
            ∧ ∀ g, x.openGap = some g →
                r.pre.toNat + r.post.toNat < (g.firstLost - (r.trigger - r.pre.setWidth 24)).toNat
                  ∧ (g.firstLost - (r.trigger - r.pre.setWidth 24)).toNat < 8388608)

/-! ### Reset -/

/-- RST low puts every block at its power-on values, those of the tables of sections 1.1, 2.11, 3.1, 5.1, 6.1, 7.1,
8.1, 9.1 and 10.1, and holds them, the commands waiting kept; its release ends the hold and changes nothing else;
while it is low no other command or event has any effect (R7, R57, R80, R88, R123, R133, R137, R156).  The queue of
commands is the model's own, and the state the model starts from has RST released (log 9). -/
def Obligations.ResetGivesPowerOnValuesAndHolds : Prop :=
  (∀ s : State,
      exec .powerOnReset s = .next { State.reset with resetHold := true, pending := s.pending }
        ∧ exec .rstRelease s = .next { s with resetHold := false }
        ∧ ∀ i : Instr, s.resetHold = true → i ≠ .powerOnReset → i ≠ .rstRelease → exec i s = .next s)
    ∧ (State.reset.now = 0 ∧ State.reset.tickSource = .external ∧ State.reset.divisor = 1 ∧ State.reset.dividerCount = 0
        ∧ State.reset.tickLevel = .high
        ∧ (∀ l : LaneId, State.reset.lane l =
            ⟨false, 0, 0, 0, [], none, false, false, 0, 0, 0, 0, 0⟩)
        ∧ State.reset.freePool = 4096
        ∧ State.reset.assembly = .idle ∧ State.reset.qsynLevel = .high ∧ State.reset.queue = []
        ∧ State.reset.framingErrors = 0 ∧ State.reset.parityErrors = 0 ∧ State.reset.disabledDiscards = 0
        ∧ State.reset.queueOverflows = 0
        ∧ State.reset.serving = none ∧ State.reset.normalPtr = 3 ∧ State.reset.urgentPtr = 3 ∧ State.reset.claim = none
        ∧ ∀ m : Master,
            (∀ i : SlotId, (State.reset.master m).slot i = none) ∧ (State.reset.master m).order = []
              ∧ (State.reset.master m).template = none ∧ (State.reset.master m).refusals = 0
              ∧ (State.reset.master m).lastRefusal = .none ∧ (State.reset.master m).capLevel = .high
              ∧ (State.reset.master m).items = [] ∧ (State.reset.master m).watermark = 128
              ∧ (State.reset.master m).reading = none ∧ (State.reset.master m).frame = .deselected
              ∧ (State.reset.master m).session = none ∧ (State.reset.master m).lastEnd = .power
              ∧ (State.reset.master m).frameErrors = 0 ∧ (State.reset.master m).badChecks = 0
              ∧ (State.reset.master m).flags = 0 ∧ (State.reset.master m).mask = 0)

/-! ### Laws that every step keeps -/

/-- Every step keeps the law of the lanes: capacities and the pool, room, no gap at capacity 0, every GAP followed
by its SAMPLE (R14, R15, R19, R20). -/
def Obligations.EveryStepKeepsTheLaneLaw : Prop :=
  ∀ s t : State, s.LaneLaw → step s = .next t → t.LaneLaw

/-- Every step keeps the law of the sessions: a detached master holds no slot, template, item, claim or service;
an attached one's lease runs, and its slots and template lie within what it declared (R79, R87, R93, R133, R145,
R158). -/
def Obligations.EveryStepKeepsTheSessionLaw : Prop :=
  ∀ s t : State, s.SessionLaw → step s = .next t → t.SessionLaw

/-- Every step keeps the law of the engine: at most one ACTIVE slot, the one served, with an item in flight that
suits it and room for it; items within the budget; an admission order of the live slots; an IDLE engine with
nothing eligible (R59, R60, R94, R95, R97, R121, R124). -/
def Obligations.EveryStepKeepsTheEngineLaw : Prop :=
  ∀ s t : State, s.EngineLaw → step s = .next t → t.EngineLaw

/-- Every step keeps the bounds of the divider, the receiver, the Input Queue and the ports (R4, R45, R52, R124,
R138, R142). -/
def Obligations.EveryStepKeepsThePortLaw : Prop :=
  ∀ s t : State, s.PortLaw → step s = .next t → t.PortLaw

/-- A step advances *now* by one exactly where it brings a tick arrival, sets it to 0 at power-on reset, and leaves it
in every other case; so no command changes it (R1, R3, R4, R7).  Which steps bring a tick is `State.TickDue`, by the
readings of logs 1, 2 and 4. -/
def Obligations.NowMovesOnlyByTicksAndReset : Prop :=
  ∀ s t : State, step s = .next t →
    (s.TickDue → t.now = s.now + 1)
      ∧ (s.pending.head? = some .powerOnReset → t.now = 0)
      ∧ (¬ s.TickDue → s.pending.head? ≠ some .powerOnReset → t.now = s.now)

/-- The four laws hold after power-on reset. -/
def Obligations.TheLawsHoldAtReset : Prop :=
  State.reset.LaneLaw ∧ State.reset.SessionLaw ∧ State.reset.EngineLaw ∧ State.reset.PortLaw
end

