-- ==== Sys2Proof/Laws/State.lean ====
section
/-! SUPPORT. One lemma for each field under each update of the state, of one master and of one lane, so
that no later proof unfolds a record update. -/

namespace Sys2Proof.Machine

/-! ### Reading a master or a lane after any update of the other fields -/

/-- Reading a master does not look at any other field. -/
@[simp] theorem State.master_of_masters (s : State) (m : Master)
    (a0 : Tag) (a1 : TickSource) (a2 : Nat) (a3 : Nat) (a4 : Level) (a5 : Vector Lane 16) (a6 : Assembly) (a7 : Level) (a8 : List Frame) (a9 : Counter) (a10 : Counter) (a11 : Counter) (a12 : Counter) (a14 : Option Serving) (a15 : Master) (a16 : Master) (a17 : Option Master) (a18 : Bool) (a19 : List Instr) :
    (State.mk a0 a1 a2 a3 a4 a5 a6 a7 a8 a9 a10 a11 a12 s.masters a14 a15 a16 a17 a18 a19).master m = s.master m := rfl

/-- Reading a lane does not look at any other field. -/
@[simp] theorem State.lane_of_lanes (s : State) (l : LaneId)
    (a0 : Tag) (a1 : TickSource) (a2 : Nat) (a3 : Nat) (a4 : Level) (a6 : Assembly) (a7 : Level) (a8 : List Frame) (a9 : Counter) (a10 : Counter) (a11 : Counter) (a12 : Counter) (a13 : Vector MasterState 4) (a14 : Option Serving) (a15 : Master) (a16 : Master) (a17 : Option Master) (a18 : Bool) (a19 : List Instr) :
    (State.mk a0 a1 a2 a3 a4 s.lanes a6 a7 a8 a9 a10 a11 a12 a13 a14 a15 a16 a17 a18 a19).lane l = s.lane l := rfl

/-! ### setMaster leaves every other field as it is -/

@[simp] theorem State.setMaster_now (s : State) (m : Master) (x : MasterState) : (s.setMaster m x).now = s.now := rfl
@[simp] theorem State.setMaster_tickSource (s : State) (m : Master) (x : MasterState) : (s.setMaster m x).tickSource = s.tickSource := rfl
@[simp] theorem State.setMaster_divisor (s : State) (m : Master) (x : MasterState) : (s.setMaster m x).divisor = s.divisor := rfl
@[simp] theorem State.setMaster_dividerCount (s : State) (m : Master) (x : MasterState) : (s.setMaster m x).dividerCount = s.dividerCount := rfl
@[simp] theorem State.setMaster_tickLevel (s : State) (m : Master) (x : MasterState) : (s.setMaster m x).tickLevel = s.tickLevel := rfl
@[simp] theorem State.setMaster_assembly (s : State) (m : Master) (x : MasterState) : (s.setMaster m x).assembly = s.assembly := rfl
@[simp] theorem State.setMaster_qsynLevel (s : State) (m : Master) (x : MasterState) : (s.setMaster m x).qsynLevel = s.qsynLevel := rfl
@[simp] theorem State.setMaster_queue (s : State) (m : Master) (x : MasterState) : (s.setMaster m x).queue = s.queue := rfl
@[simp] theorem State.setMaster_framingErrors (s : State) (m : Master) (x : MasterState) : (s.setMaster m x).framingErrors = s.framingErrors := rfl
@[simp] theorem State.setMaster_parityErrors (s : State) (m : Master) (x : MasterState) : (s.setMaster m x).parityErrors = s.parityErrors := rfl
@[simp] theorem State.setMaster_disabledDiscards (s : State) (m : Master) (x : MasterState) : (s.setMaster m x).disabledDiscards = s.disabledDiscards := rfl
@[simp] theorem State.setMaster_queueOverflows (s : State) (m : Master) (x : MasterState) : (s.setMaster m x).queueOverflows = s.queueOverflows := rfl
@[simp] theorem State.setMaster_serving (s : State) (m : Master) (x : MasterState) : (s.setMaster m x).serving = s.serving := rfl
@[simp] theorem State.setMaster_normalPtr (s : State) (m : Master) (x : MasterState) : (s.setMaster m x).normalPtr = s.normalPtr := rfl
@[simp] theorem State.setMaster_urgentPtr (s : State) (m : Master) (x : MasterState) : (s.setMaster m x).urgentPtr = s.urgentPtr := rfl
@[simp] theorem State.setMaster_claim (s : State) (m : Master) (x : MasterState) : (s.setMaster m x).claim = s.claim := rfl
@[simp] theorem State.setMaster_resetHold (s : State) (m : Master) (x : MasterState) : (s.setMaster m x).resetHold = s.resetHold := rfl
@[simp] theorem State.setMaster_pending (s : State) (m : Master) (x : MasterState) : (s.setMaster m x).pending = s.pending := rfl
@[simp] theorem State.setMaster_lanes (s : State) (m : Master) (x : MasterState) : (s.setMaster m x).lanes = s.lanes := rfl

/-! ### onMaster leaves every other field as it is -/

@[simp] theorem State.onMaster_now (s : State) (m : Master) (f : MasterState → MasterState) : (s.onMaster m f).now = s.now := rfl
@[simp] theorem State.onMaster_tickSource (s : State) (m : Master) (f : MasterState → MasterState) : (s.onMaster m f).tickSource = s.tickSource := rfl
@[simp] theorem State.onMaster_divisor (s : State) (m : Master) (f : MasterState → MasterState) : (s.onMaster m f).divisor = s.divisor := rfl
@[simp] theorem State.onMaster_dividerCount (s : State) (m : Master) (f : MasterState → MasterState) : (s.onMaster m f).dividerCount = s.dividerCount := rfl
@[simp] theorem State.onMaster_tickLevel (s : State) (m : Master) (f : MasterState → MasterState) : (s.onMaster m f).tickLevel = s.tickLevel := rfl
@[simp] theorem State.onMaster_assembly (s : State) (m : Master) (f : MasterState → MasterState) : (s.onMaster m f).assembly = s.assembly := rfl
@[simp] theorem State.onMaster_qsynLevel (s : State) (m : Master) (f : MasterState → MasterState) : (s.onMaster m f).qsynLevel = s.qsynLevel := rfl
@[simp] theorem State.onMaster_queue (s : State) (m : Master) (f : MasterState → MasterState) : (s.onMaster m f).queue = s.queue := rfl
@[simp] theorem State.onMaster_framingErrors (s : State) (m : Master) (f : MasterState → MasterState) : (s.onMaster m f).framingErrors = s.framingErrors := rfl
@[simp] theorem State.onMaster_parityErrors (s : State) (m : Master) (f : MasterState → MasterState) : (s.onMaster m f).parityErrors = s.parityErrors := rfl
@[simp] theorem State.onMaster_disabledDiscards (s : State) (m : Master) (f : MasterState → MasterState) : (s.onMaster m f).disabledDiscards = s.disabledDiscards := rfl
@[simp] theorem State.onMaster_queueOverflows (s : State) (m : Master) (f : MasterState → MasterState) : (s.onMaster m f).queueOverflows = s.queueOverflows := rfl
@[simp] theorem State.onMaster_serving (s : State) (m : Master) (f : MasterState → MasterState) : (s.onMaster m f).serving = s.serving := rfl
@[simp] theorem State.onMaster_normalPtr (s : State) (m : Master) (f : MasterState → MasterState) : (s.onMaster m f).normalPtr = s.normalPtr := rfl
@[simp] theorem State.onMaster_urgentPtr (s : State) (m : Master) (f : MasterState → MasterState) : (s.onMaster m f).urgentPtr = s.urgentPtr := rfl
@[simp] theorem State.onMaster_claim (s : State) (m : Master) (f : MasterState → MasterState) : (s.onMaster m f).claim = s.claim := rfl
@[simp] theorem State.onMaster_resetHold (s : State) (m : Master) (f : MasterState → MasterState) : (s.onMaster m f).resetHold = s.resetHold := rfl
@[simp] theorem State.onMaster_pending (s : State) (m : Master) (f : MasterState → MasterState) : (s.onMaster m f).pending = s.pending := rfl
@[simp] theorem State.onMaster_lanes (s : State) (m : Master) (f : MasterState → MasterState) : (s.onMaster m f).lanes = s.lanes := rfl

/-! ### Changing every entry of a vector -/

/-- The change of every entry is the library's map. -/
theorem changeAll_eq_map {α : Type} {n : Nat} (f : α → α) (v : Vector α n) : changeAll f v = v.map f := by
  apply Vector.ext
  intro i h
  simp [changeAll]

/-! ### onMasters leaves every other field as it is -/

@[simp] theorem State.onMasters_now (s : State) (f : MasterState → MasterState) : (s.onMasters f).now = s.now := rfl
@[simp] theorem State.onMasters_tickSource (s : State) (f : MasterState → MasterState) : (s.onMasters f).tickSource = s.tickSource := rfl
@[simp] theorem State.onMasters_divisor (s : State) (f : MasterState → MasterState) : (s.onMasters f).divisor = s.divisor := rfl
@[simp] theorem State.onMasters_dividerCount (s : State) (f : MasterState → MasterState) : (s.onMasters f).dividerCount = s.dividerCount := rfl
@[simp] theorem State.onMasters_tickLevel (s : State) (f : MasterState → MasterState) : (s.onMasters f).tickLevel = s.tickLevel := rfl
@[simp] theorem State.onMasters_assembly (s : State) (f : MasterState → MasterState) : (s.onMasters f).assembly = s.assembly := rfl
@[simp] theorem State.onMasters_qsynLevel (s : State) (f : MasterState → MasterState) : (s.onMasters f).qsynLevel = s.qsynLevel := rfl
@[simp] theorem State.onMasters_queue (s : State) (f : MasterState → MasterState) : (s.onMasters f).queue = s.queue := rfl
@[simp] theorem State.onMasters_framingErrors (s : State) (f : MasterState → MasterState) : (s.onMasters f).framingErrors = s.framingErrors := rfl
@[simp] theorem State.onMasters_parityErrors (s : State) (f : MasterState → MasterState) : (s.onMasters f).parityErrors = s.parityErrors := rfl
@[simp] theorem State.onMasters_disabledDiscards (s : State) (f : MasterState → MasterState) : (s.onMasters f).disabledDiscards = s.disabledDiscards := rfl
@[simp] theorem State.onMasters_queueOverflows (s : State) (f : MasterState → MasterState) : (s.onMasters f).queueOverflows = s.queueOverflows := rfl
@[simp] theorem State.onMasters_serving (s : State) (f : MasterState → MasterState) : (s.onMasters f).serving = s.serving := rfl
@[simp] theorem State.onMasters_normalPtr (s : State) (f : MasterState → MasterState) : (s.onMasters f).normalPtr = s.normalPtr := rfl
@[simp] theorem State.onMasters_urgentPtr (s : State) (f : MasterState → MasterState) : (s.onMasters f).urgentPtr = s.urgentPtr := rfl
@[simp] theorem State.onMasters_claim (s : State) (f : MasterState → MasterState) : (s.onMasters f).claim = s.claim := rfl
@[simp] theorem State.onMasters_resetHold (s : State) (f : MasterState → MasterState) : (s.onMasters f).resetHold = s.resetHold := rfl
@[simp] theorem State.onMasters_pending (s : State) (f : MasterState → MasterState) : (s.onMasters f).pending = s.pending := rfl
@[simp] theorem State.onMasters_lanes (s : State) (f : MasterState → MasterState) : (s.onMasters f).lanes = s.lanes := rfl

/-! ### setLane leaves every other field as it is -/

@[simp] theorem State.setLane_now (s : State) (l : LaneId) (x : Lane) : (s.setLane l x).now = s.now := rfl
@[simp] theorem State.setLane_tickSource (s : State) (l : LaneId) (x : Lane) : (s.setLane l x).tickSource = s.tickSource := rfl
@[simp] theorem State.setLane_divisor (s : State) (l : LaneId) (x : Lane) : (s.setLane l x).divisor = s.divisor := rfl
@[simp] theorem State.setLane_dividerCount (s : State) (l : LaneId) (x : Lane) : (s.setLane l x).dividerCount = s.dividerCount := rfl
@[simp] theorem State.setLane_tickLevel (s : State) (l : LaneId) (x : Lane) : (s.setLane l x).tickLevel = s.tickLevel := rfl
@[simp] theorem State.setLane_assembly (s : State) (l : LaneId) (x : Lane) : (s.setLane l x).assembly = s.assembly := rfl
@[simp] theorem State.setLane_qsynLevel (s : State) (l : LaneId) (x : Lane) : (s.setLane l x).qsynLevel = s.qsynLevel := rfl
@[simp] theorem State.setLane_queue (s : State) (l : LaneId) (x : Lane) : (s.setLane l x).queue = s.queue := rfl
@[simp] theorem State.setLane_framingErrors (s : State) (l : LaneId) (x : Lane) : (s.setLane l x).framingErrors = s.framingErrors := rfl
@[simp] theorem State.setLane_parityErrors (s : State) (l : LaneId) (x : Lane) : (s.setLane l x).parityErrors = s.parityErrors := rfl
@[simp] theorem State.setLane_disabledDiscards (s : State) (l : LaneId) (x : Lane) : (s.setLane l x).disabledDiscards = s.disabledDiscards := rfl
@[simp] theorem State.setLane_queueOverflows (s : State) (l : LaneId) (x : Lane) : (s.setLane l x).queueOverflows = s.queueOverflows := rfl
@[simp] theorem State.setLane_serving (s : State) (l : LaneId) (x : Lane) : (s.setLane l x).serving = s.serving := rfl
@[simp] theorem State.setLane_normalPtr (s : State) (l : LaneId) (x : Lane) : (s.setLane l x).normalPtr = s.normalPtr := rfl
@[simp] theorem State.setLane_urgentPtr (s : State) (l : LaneId) (x : Lane) : (s.setLane l x).urgentPtr = s.urgentPtr := rfl
@[simp] theorem State.setLane_claim (s : State) (l : LaneId) (x : Lane) : (s.setLane l x).claim = s.claim := rfl
@[simp] theorem State.setLane_resetHold (s : State) (l : LaneId) (x : Lane) : (s.setLane l x).resetHold = s.resetHold := rfl
@[simp] theorem State.setLane_pending (s : State) (l : LaneId) (x : Lane) : (s.setLane l x).pending = s.pending := rfl
@[simp] theorem State.setLane_masters (s : State) (l : LaneId) (x : Lane) : (s.setLane l x).masters = s.masters := rfl

/-! ### onLane leaves every other field as it is -/

@[simp] theorem State.onLane_now (s : State) (l : LaneId) (f : Lane → Lane) : (s.onLane l f).now = s.now := rfl
@[simp] theorem State.onLane_tickSource (s : State) (l : LaneId) (f : Lane → Lane) : (s.onLane l f).tickSource = s.tickSource := rfl
@[simp] theorem State.onLane_divisor (s : State) (l : LaneId) (f : Lane → Lane) : (s.onLane l f).divisor = s.divisor := rfl
@[simp] theorem State.onLane_dividerCount (s : State) (l : LaneId) (f : Lane → Lane) : (s.onLane l f).dividerCount = s.dividerCount := rfl
@[simp] theorem State.onLane_tickLevel (s : State) (l : LaneId) (f : Lane → Lane) : (s.onLane l f).tickLevel = s.tickLevel := rfl
@[simp] theorem State.onLane_assembly (s : State) (l : LaneId) (f : Lane → Lane) : (s.onLane l f).assembly = s.assembly := rfl
@[simp] theorem State.onLane_qsynLevel (s : State) (l : LaneId) (f : Lane → Lane) : (s.onLane l f).qsynLevel = s.qsynLevel := rfl
@[simp] theorem State.onLane_queue (s : State) (l : LaneId) (f : Lane → Lane) : (s.onLane l f).queue = s.queue := rfl
@[simp] theorem State.onLane_framingErrors (s : State) (l : LaneId) (f : Lane → Lane) : (s.onLane l f).framingErrors = s.framingErrors := rfl
@[simp] theorem State.onLane_parityErrors (s : State) (l : LaneId) (f : Lane → Lane) : (s.onLane l f).parityErrors = s.parityErrors := rfl
@[simp] theorem State.onLane_disabledDiscards (s : State) (l : LaneId) (f : Lane → Lane) : (s.onLane l f).disabledDiscards = s.disabledDiscards := rfl
@[simp] theorem State.onLane_queueOverflows (s : State) (l : LaneId) (f : Lane → Lane) : (s.onLane l f).queueOverflows = s.queueOverflows := rfl
@[simp] theorem State.onLane_serving (s : State) (l : LaneId) (f : Lane → Lane) : (s.onLane l f).serving = s.serving := rfl
@[simp] theorem State.onLane_normalPtr (s : State) (l : LaneId) (f : Lane → Lane) : (s.onLane l f).normalPtr = s.normalPtr := rfl
@[simp] theorem State.onLane_urgentPtr (s : State) (l : LaneId) (f : Lane → Lane) : (s.onLane l f).urgentPtr = s.urgentPtr := rfl
@[simp] theorem State.onLane_claim (s : State) (l : LaneId) (f : Lane → Lane) : (s.onLane l f).claim = s.claim := rfl
@[simp] theorem State.onLane_resetHold (s : State) (l : LaneId) (f : Lane → Lane) : (s.onLane l f).resetHold = s.resetHold := rfl
@[simp] theorem State.onLane_pending (s : State) (l : LaneId) (f : Lane → Lane) : (s.onLane l f).pending = s.pending := rfl
@[simp] theorem State.onLane_masters (s : State) (l : LaneId) (f : Lane → Lane) : (s.onLane l f).masters = s.masters := rfl

/-! ### onLanes leaves every other field as it is -/

@[simp] theorem State.onLanes_now (s : State) (ls : LaneSet) (f : Lane → Lane) : (s.onLanes ls f).now = s.now := rfl
@[simp] theorem State.onLanes_tickSource (s : State) (ls : LaneSet) (f : Lane → Lane) : (s.onLanes ls f).tickSource = s.tickSource := rfl
@[simp] theorem State.onLanes_divisor (s : State) (ls : LaneSet) (f : Lane → Lane) : (s.onLanes ls f).divisor = s.divisor := rfl
@[simp] theorem State.onLanes_dividerCount (s : State) (ls : LaneSet) (f : Lane → Lane) : (s.onLanes ls f).dividerCount = s.dividerCount := rfl
@[simp] theorem State.onLanes_tickLevel (s : State) (ls : LaneSet) (f : Lane → Lane) : (s.onLanes ls f).tickLevel = s.tickLevel := rfl
@[simp] theorem State.onLanes_assembly (s : State) (ls : LaneSet) (f : Lane → Lane) : (s.onLanes ls f).assembly = s.assembly := rfl
@[simp] theorem State.onLanes_qsynLevel (s : State) (ls : LaneSet) (f : Lane → Lane) : (s.onLanes ls f).qsynLevel = s.qsynLevel := rfl
@[simp] theorem State.onLanes_queue (s : State) (ls : LaneSet) (f : Lane → Lane) : (s.onLanes ls f).queue = s.queue := rfl
@[simp] theorem State.onLanes_framingErrors (s : State) (ls : LaneSet) (f : Lane → Lane) : (s.onLanes ls f).framingErrors = s.framingErrors := rfl
@[simp] theorem State.onLanes_parityErrors (s : State) (ls : LaneSet) (f : Lane → Lane) : (s.onLanes ls f).parityErrors = s.parityErrors := rfl
@[simp] theorem State.onLanes_disabledDiscards (s : State) (ls : LaneSet) (f : Lane → Lane) : (s.onLanes ls f).disabledDiscards = s.disabledDiscards := rfl
@[simp] theorem State.onLanes_queueOverflows (s : State) (ls : LaneSet) (f : Lane → Lane) : (s.onLanes ls f).queueOverflows = s.queueOverflows := rfl
@[simp] theorem State.onLanes_serving (s : State) (ls : LaneSet) (f : Lane → Lane) : (s.onLanes ls f).serving = s.serving := rfl
@[simp] theorem State.onLanes_normalPtr (s : State) (ls : LaneSet) (f : Lane → Lane) : (s.onLanes ls f).normalPtr = s.normalPtr := rfl
@[simp] theorem State.onLanes_urgentPtr (s : State) (ls : LaneSet) (f : Lane → Lane) : (s.onLanes ls f).urgentPtr = s.urgentPtr := rfl
@[simp] theorem State.onLanes_claim (s : State) (ls : LaneSet) (f : Lane → Lane) : (s.onLanes ls f).claim = s.claim := rfl
@[simp] theorem State.onLanes_resetHold (s : State) (ls : LaneSet) (f : Lane → Lane) : (s.onLanes ls f).resetHold = s.resetHold := rfl
@[simp] theorem State.onLanes_pending (s : State) (ls : LaneSet) (f : Lane → Lane) : (s.onLanes ls f).pending = s.pending := rfl
@[simp] theorem State.onLanes_masters (s : State) (ls : LaneSet) (f : Lane → Lane) : (s.onLanes ls f).masters = s.masters := rfl

/-! ### Reading back what was written -/

@[simp] theorem State.setMaster_lane (s : State) (m : Master) (x : MasterState) (l : LaneId) :
    (s.setMaster m x).lane l = s.lane l := rfl

@[simp] theorem State.onMaster_lane (s : State) (m : Master) (f : MasterState → MasterState) (l : LaneId) :
    (s.onMaster m f).lane l = s.lane l := rfl

@[simp] theorem State.onMasters_lane (s : State) (f : MasterState → MasterState) (l : LaneId) :
    (s.onMasters f).lane l = s.lane l := rfl

@[simp] theorem State.setLane_master (s : State) (l : LaneId) (x : Lane) (m : Master) :
    (s.setLane l x).master m = s.master m := rfl

@[simp] theorem State.onLane_master (s : State) (l : LaneId) (f : Lane → Lane) (m : Master) :
    (s.onLane l f).master m = s.master m := rfl

@[simp] theorem State.onLanes_master (s : State) (ls : LaneSet) (f : Lane → Lane) (m : Master) :
    (s.onLanes ls f).master m = s.master m := rfl

/-- The master written is the one read back. -/
@[simp] theorem State.setMaster_master_same (s : State) (m : Master) (x : MasterState) :
    (s.setMaster m x).master m = x := by
  simp [State.setMaster, State.master]

/-- Another master reads as before. -/
theorem State.setMaster_master_other (s : State) {m n : Master} (x : MasterState) (h : n ≠ m) :
    (s.setMaster m x).master n = s.master n := by
  simp only [State.setMaster, State.master, Fin.getElem_fin]
  exact Vector.getElem_set_ne _ _ (fun e => h (Fin.ext e.symm))

/-- Any master after one is written. -/
theorem State.setMaster_master (s : State) (m n : Master) (x : MasterState) :
    (s.setMaster m x).master n = if n = m then x else s.master n := by
  by_cases h : n = m
  · subst h; simp
  · simp [h, State.setMaster_master_other s x h]

/-- The lane written is the one read back. -/
@[simp] theorem State.setLane_lane_same (s : State) (l : LaneId) (x : Lane) :
    (s.setLane l x).lane l = x := by
  simp [State.setLane, State.lane]

/-- Another lane reads as before. -/
theorem State.setLane_lane_other (s : State) {l k : LaneId} (x : Lane) (h : k ≠ l) :
    (s.setLane l x).lane k = s.lane k := by
  simp only [State.setLane, State.lane, Fin.getElem_fin]
  exact Vector.getElem_set_ne _ _ (fun e => h (Fin.ext e.symm))

/-- Any lane after one is written. -/
theorem State.setLane_lane (s : State) (l k : LaneId) (x : Lane) :
    (s.setLane l x).lane k = if k = l then x else s.lane k := by
  by_cases h : k = l
  · subst h; simp
  · simp [h, State.setLane_lane_other s x h]

/-- Writing a master twice keeps the later writing. -/
@[simp] theorem State.setMaster_setMaster (s : State) (m : Master) (x y : MasterState) :
    (s.setMaster m x).setMaster m y = s.setMaster m y := by
  simp [State.setMaster]

/-- Writing back what a master holds changes nothing. -/
@[simp] theorem State.setMaster_self (s : State) (m : Master) : s.setMaster m (s.master m) = s := by
  simp [State.setMaster, State.master]

/-- Writing back what a lane holds changes nothing. -/
@[simp] theorem State.setLane_self (s : State) (l : LaneId) : s.setLane l (s.lane l) = s := by
  simp [State.setLane, State.lane]

/-- The master changed is the one read back. -/
@[simp] theorem State.onMaster_master_same (s : State) (m : Master) (f : MasterState → MasterState) :
    (s.onMaster m f).master m = f (s.master m) := by
  simp [State.onMaster]

/-- Any master after one is changed. -/
theorem State.onMaster_master (s : State) (m n : Master) (f : MasterState → MasterState) :
    (s.onMaster m f).master n = if n = m then f (s.master n) else s.master n := by
  by_cases h : n = m
  · subst h; simp
  · simp [h, State.onMaster, State.setMaster_master_other s _ h]

/-- Every master after all are changed alike. -/
@[simp] theorem State.onMasters_master (s : State) (f : MasterState → MasterState) (m : Master) :
    (s.onMasters f).master m = f (s.master m) := by
  simp [State.onMasters, State.master, changeAll_eq_map]

/-- Any lane after one is changed. -/
theorem State.onLane_lane (s : State) (l k : LaneId) (f : Lane → Lane) :
    (s.onLane l f).lane k = if k = l then f (s.lane k) else s.lane k := by
  by_cases h : k = l
  · subst h; simp [State.onLane]
  · simp [h, State.onLane, State.setLane_lane_other s _ h]

/-- Any lane after those of a set are changed alike. -/
@[simp] theorem State.onLanes_lane (s : State) (ls : LaneSet) (f : Lane → Lane) (l : LaneId) :
    (s.onLanes ls f).lane l = if inSet ls l then f (s.lane l) else s.lane l := by
  fin_cases l <;> rfl

/-- Changing a master twice is one change. -/
@[simp] theorem State.onMaster_onMaster (s : State) (m : Master) (f g : MasterState → MasterState) :
    (s.onMaster m f).onMaster m g = s.onMaster m (g ∘ f) := by
  simp [State.onMaster]

/-! ### Slots of one master -/

@[simp] theorem MasterState.setSlot_slot_same (x : MasterState) (i : SlotId) (r : Option Request) :
    (x.setSlot i r).slot i = r := by
  simp [MasterState.setSlot, MasterState.slot]

/-- Any slot after one is written. -/
theorem MasterState.setSlot_slot (x : MasterState) (i j : SlotId) (r : Option Request) :
    (x.setSlot i r).slot j = if j = i then r else x.slot j := by
  by_cases h : j = i
  · subst h; simp
  · simp only [h, if_false, MasterState.setSlot, MasterState.slot, Fin.getElem_fin]
    exact Vector.getElem_set_ne _ _ (fun e => h (Fin.ext e.symm))

@[simp] theorem MasterState.setSlot_setSlot (x : MasterState) (i : SlotId) (r q : Option Request) :
    (x.setSlot i r).setSlot i q = x.setSlot i q := by
  simp [MasterState.setSlot]

@[simp] theorem MasterState.onSlots_slot (x : MasterState) (f : Request → Request) (i : SlotId) :
    (x.onSlots f).slot i = (x.slot i).map f := by
  simp [MasterState.onSlots, MasterState.slot, changeAll_eq_map]

@[simp] theorem MasterState.setSlot_frame (x : MasterState) (i : SlotId) (r : Option Request) : (x.setSlot i r).frame = x.frame := rfl
@[simp] theorem MasterState.setSlot_sdo (x : MasterState) (i : SlotId) (r : Option Request) : (x.setSlot i r).sdo = x.sdo := rfl
@[simp] theorem MasterState.setSlot_session (x : MasterState) (i : SlotId) (r : Option Request) : (x.setSlot i r).session = x.session := rfl
@[simp] theorem MasterState.setSlot_lastEnd (x : MasterState) (i : SlotId) (r : Option Request) : (x.setSlot i r).lastEnd = x.lastEnd := rfl
@[simp] theorem MasterState.setSlot_frameErrors (x : MasterState) (i : SlotId) (r : Option Request) : (x.setSlot i r).frameErrors = x.frameErrors := rfl
@[simp] theorem MasterState.setSlot_badChecks (x : MasterState) (i : SlotId) (r : Option Request) : (x.setSlot i r).badChecks = x.badChecks := rfl
@[simp] theorem MasterState.setSlot_order (x : MasterState) (i : SlotId) (r : Option Request) : (x.setSlot i r).order = x.order := rfl
@[simp] theorem MasterState.setSlot_template (x : MasterState) (i : SlotId) (r : Option Request) : (x.setSlot i r).template = x.template := rfl
@[simp] theorem MasterState.setSlot_refusals (x : MasterState) (i : SlotId) (r : Option Request) : (x.setSlot i r).refusals = x.refusals := rfl
@[simp] theorem MasterState.setSlot_lastRefusal (x : MasterState) (i : SlotId) (r : Option Request) : (x.setSlot i r).lastRefusal = x.lastRefusal := rfl
@[simp] theorem MasterState.setSlot_capLevel (x : MasterState) (i : SlotId) (r : Option Request) : (x.setSlot i r).capLevel = x.capLevel := rfl
@[simp] theorem MasterState.setSlot_items (x : MasterState) (i : SlotId) (r : Option Request) : (x.setSlot i r).items = x.items := rfl
@[simp] theorem MasterState.setSlot_watermark (x : MasterState) (i : SlotId) (r : Option Request) : (x.setSlot i r).watermark = x.watermark := rfl
@[simp] theorem MasterState.setSlot_reading (x : MasterState) (i : SlotId) (r : Option Request) : (x.setSlot i r).reading = x.reading := rfl
@[simp] theorem MasterState.setSlot_closed (x : MasterState) (i : SlotId) (r : Option Request) : (x.setSlot i r).closed = x.closed := rfl
@[simp] theorem MasterState.setSlot_refused (x : MasterState) (i : SlotId) (r : Option Request) : (x.setSlot i r).refused = x.refused := rfl
@[simp] theorem MasterState.setSlot_pressure (x : MasterState) (i : SlotId) (r : Option Request) : (x.setSlot i r).pressure = x.pressure := rfl
@[simp] theorem MasterState.setSlot_ended (x : MasterState) (i : SlotId) (r : Option Request) : (x.setSlot i r).ended = x.ended := rfl
@[simp] theorem MasterState.setSlot_mask (x : MasterState) (i : SlotId) (r : Option Request) : (x.setSlot i r).mask = x.mask := rfl

@[simp] theorem MasterState.onSlots_frame (x : MasterState) (f : Request → Request) : (x.onSlots f).frame = x.frame := rfl
@[simp] theorem MasterState.onSlots_sdo (x : MasterState) (f : Request → Request) : (x.onSlots f).sdo = x.sdo := rfl
@[simp] theorem MasterState.onSlots_session (x : MasterState) (f : Request → Request) : (x.onSlots f).session = x.session := rfl
@[simp] theorem MasterState.onSlots_lastEnd (x : MasterState) (f : Request → Request) : (x.onSlots f).lastEnd = x.lastEnd := rfl
@[simp] theorem MasterState.onSlots_frameErrors (x : MasterState) (f : Request → Request) : (x.onSlots f).frameErrors = x.frameErrors := rfl
@[simp] theorem MasterState.onSlots_badChecks (x : MasterState) (f : Request → Request) : (x.onSlots f).badChecks = x.badChecks := rfl
@[simp] theorem MasterState.onSlots_order (x : MasterState) (f : Request → Request) : (x.onSlots f).order = x.order := rfl
@[simp] theorem MasterState.onSlots_template (x : MasterState) (f : Request → Request) : (x.onSlots f).template = x.template := rfl
@[simp] theorem MasterState.onSlots_refusals (x : MasterState) (f : Request → Request) : (x.onSlots f).refusals = x.refusals := rfl
@[simp] theorem MasterState.onSlots_lastRefusal (x : MasterState) (f : Request → Request) : (x.onSlots f).lastRefusal = x.lastRefusal := rfl
@[simp] theorem MasterState.onSlots_capLevel (x : MasterState) (f : Request → Request) : (x.onSlots f).capLevel = x.capLevel := rfl
@[simp] theorem MasterState.onSlots_items (x : MasterState) (f : Request → Request) : (x.onSlots f).items = x.items := rfl
@[simp] theorem MasterState.onSlots_watermark (x : MasterState) (f : Request → Request) : (x.onSlots f).watermark = x.watermark := rfl
@[simp] theorem MasterState.onSlots_reading (x : MasterState) (f : Request → Request) : (x.onSlots f).reading = x.reading := rfl
@[simp] theorem MasterState.onSlots_closed (x : MasterState) (f : Request → Request) : (x.onSlots f).closed = x.closed := rfl
@[simp] theorem MasterState.onSlots_refused (x : MasterState) (f : Request → Request) : (x.onSlots f).refused = x.refused := rfl
@[simp] theorem MasterState.onSlots_pressure (x : MasterState) (f : Request → Request) : (x.onSlots f).pressure = x.pressure := rfl
@[simp] theorem MasterState.onSlots_ended (x : MasterState) (f : Request → Request) : (x.onSlots f).ended = x.ended := rfl
@[simp] theorem MasterState.onSlots_mask (x : MasterState) (f : Request → Request) : (x.onSlots f).mask = x.mask := rfl

/-- Reading a slot does not look at any other field. -/
@[simp] theorem MasterState.slot_of_slots (x : MasterState) (i : SlotId)
    (a0 : FrameState) (a1 : Option Byte) (a2 : Option Session) (a3 : EndReason) (a4 : Counter) (a5 : Counter) (a7 : List SlotId) (a8 : Option Template) (a9 : Counter) (a10 : RefusalReason) (a11 : Level) (a12 : List Item) (a13 : Nat) (a14 : Option Reading) (a15 : Bool) (a16 : Bool) (a17 : Bool) (a18 : Bool) (a19 : BitVec 5) :
    (MasterState.mk a0 a1 a2 a3 a4 a5 x.slots a7 a8 a9 a10 a11 a12 a13 a14 a15 a16 a17 a18 a19).slot i = x.slot i := rfl

/-! ### Two masters' states, two states -/

/-- A state is known by its masters, its lanes and its other fields. -/
theorem State.masters_ext {s t : State} (h : ∀ m, s.master m = t.master m) : s.masters = t.masters := by
  apply Vector.ext
  intro i hi
  exact h ⟨i, hi⟩

/-- The lanes of a state are known one by one. -/
theorem State.lanes_ext {s t : State} (h : ∀ l, s.lane l = t.lane l) : s.lanes = t.lanes := by
  apply Vector.ext
  intro i hi
  exact h ⟨i, hi⟩

end Sys2Proof.Machine
end

