-- ==== Sys2Proof/Laws/Ops.lean ====
section
/-! SUPPORT. For each shared operation, what it can do: which fields it leaves as they are and what the
others become, so that proofs cite these lemmas and leave the operations folded. -/

namespace Sys2Proof.Machine

/-! ### What the engine may change -/

/-- Two states that differ at most in what the engine changes when it starts or sets aside work: the
slots of the masters, what is served, and the two pointers. -/
def State.SameButEngine (s t : State) : Prop :=
  t = { s with masters := t.masters, serving := t.serving, normalPtr := t.normalPtr, urgentPtr := t.urgentPtr }
    ∧ ∀ m, t.master m = { s.master m with slots := (t.master m).slots }

theorem State.SameButEngine.refl (s : State) : s.SameButEngine s := ⟨rfl, fun _ => rfl⟩

theorem State.SameButEngine.trans {s t u : State} (h : s.SameButEngine t) (k : t.SameButEngine u) :
    s.SameButEngine u := by
  refine ⟨?_, fun m => ?_⟩
  · rw [k.1, h.1]
  · rw [k.2 m, h.2 m]

theorem State.SameButEngine.now {s t : State} (h : s.SameButEngine t) : t.now = s.now := by rw [h.1]
theorem State.SameButEngine.lanes {s t : State} (h : s.SameButEngine t) : t.lanes = s.lanes := by rw [h.1]
theorem State.SameButEngine.lane {s t : State} (h : s.SameButEngine t) (l : LaneId) : t.lane l = s.lane l := by
  simp only [State.lane, h.lanes]
theorem State.SameButEngine.queue {s t : State} (h : s.SameButEngine t) : t.queue = s.queue := by rw [h.1]
theorem State.SameButEngine.claim {s t : State} (h : s.SameButEngine t) : t.claim = s.claim := by rw [h.1]
theorem State.SameButEngine.resetHold {s t : State} (h : s.SameButEngine t) : t.resetHold = s.resetHold := by rw [h.1]
theorem State.SameButEngine.pending {s t : State} (h : s.SameButEngine t) : t.pending = s.pending := by rw [h.1]
theorem State.SameButEngine.tickSource {s t : State} (h : s.SameButEngine t) : t.tickSource = s.tickSource := by rw [h.1]
theorem State.SameButEngine.tickLevel {s t : State} (h : s.SameButEngine t) : t.tickLevel = s.tickLevel := by rw [h.1]
theorem State.SameButEngine.divisor {s t : State} (h : s.SameButEngine t) : t.divisor = s.divisor := by rw [h.1]
theorem State.SameButEngine.dividerCount {s t : State} (h : s.SameButEngine t) : t.dividerCount = s.dividerCount := by
  rw [h.1]
theorem State.SameButEngine.assembly {s t : State} (h : s.SameButEngine t) : t.assembly = s.assembly := by rw [h.1]
theorem State.SameButEngine.session {s t : State} (h : s.SameButEngine t) (m : Master) :
    (t.master m).session = (s.master m).session := by rw [h.2]
theorem State.SameButEngine.frame {s t : State} (h : s.SameButEngine t) (m : Master) :
    (t.master m).frame = (s.master m).frame := by rw [h.2]
theorem State.SameButEngine.items {s t : State} (h : s.SameButEngine t) (m : Master) :
    (t.master m).items = (s.master m).items := by rw [h.2]
theorem State.SameButEngine.order {s t : State} (h : s.SameButEngine t) (m : Master) :
    (t.master m).order = (s.master m).order := by rw [h.2]

/-- Writing slots of one master, whatever is served. -/
theorem State.sameButEngine_setSlot (s : State) (m : Master) (i : SlotId) (r : Option Request) (v : Option Serving) :
    s.SameButEngine { s.onMaster m (fun x => x.setSlot i r) with serving := v } := by
  refine ⟨rfl, fun n => ?_⟩
  simp only [State.master_of_masters]
  by_cases h : n = m
  · subst h; simp [MasterState.setSlot]
  · simp [State.onMaster_master, h]

theorem State.serve_frame (s : State) (m : Master) (i : SlotId) (r : Request) (f : Flight) :
    s.SameButEngine (s.serve m i r f) := s.sameButEngine_setSlot m i _ _

theorem State.finishRequest_frame (s : State) (m : Master) (i : SlotId) (r : Request) (e : Ending) :
    s.SameButEngine (s.finishRequest m i r e) := s.serve_frame m i _ _

theorem State.nextItem_frame (s : State) (m : Master) (i : SlotId) (r : Request) :
    s.SameButEngine (s.nextItem m i r) := by
  unfold State.nextItem
  split
  · exact s.finishRequest_frame ..
  · split
    · exact s.finishRequest_frame ..
    · exact s.serve_frame ..

theorem State.select_frame (s : State) (m : Master) (i : SlotId) : s.SameButEngine (s.select m i) := by
  unfold State.select
  split
  · exact .refl s
  · split
    · exact s.serve_frame ..
    · split
      · exact s.nextItem_frame ..
      · exact s.serve_frame ..

theorem State.sameButEngine_pointers (s : State) (n u : Master) :
    s.SameButEngine { s with normalPtr := n, urgentPtr := u } := ⟨rfl, fun _ => rfl⟩

/-- Arbitration changes nothing but the slot it selects, what is served, and a pointer (R98, R100). -/
theorem State.arbitrate_frame (s : State) : s.SameButEngine s.arbitrate := by
  unfold State.arbitrate
  split
  · exact .refl s
  · split
    · next m i _ => exact (s.sameButEngine_pointers s.normalPtr m).trans (State.select_frame ..)
    · split
      · next m i _ => exact (s.sameButEngine_pointers m s.urgentPtr).trans (State.select_frame ..)
      · exact .refl s

/-- No arbitration takes place while a slot is served or RST is low (R97). -/
theorem State.arbitrate_of_busy (s : State) (h : s.resetHold = true ∨ s.serving.isSome = true) : s.arbitrate = s := by
  unfold State.arbitrate
  rcases h with h | h <;> simp [h]

theorem State.setAside_frame (s : State) (m : Master) (i : SlotId) (r : Request) (st : SlotState) :
    s.SameButEngine (s.setAside m i r st) := (s.sameButEngine_setSlot m i _ none).trans (State.arbitrate_frame _)

theorem State.boundary_frame (s : State) (m : Master) (i : SlotId) (r : Request) :
    s.SameButEngine (s.boundary m i r) := by
  unfold State.boundary
  split
  · split
    · exact s.serve_frame ..
    · exact s.setAside_frame ..
  · split
    · exact s.setAside_frame ..
    · split
      · exact s.setAside_frame ..
      · exact s.nextItem_frame ..

/-! ### Session end and the tick -/

/-- A session end changes the ended master alone. -/
theorem State.sessionEnd_master_other (s : State) {m n : Master} (why : EndReason) (h : n ≠ m) :
    (s.sessionEnd m why).master n = s.master n := by
  simp [State.sessionEnd, State.onMaster_master, h]

@[simp] theorem State.sessionEnd_master_same (s : State) (m : Master) (why : EndReason) :
    (s.sessionEnd m why).master m = (s.master m).endSession why := by
  simp [State.sessionEnd]

@[simp] theorem State.sessionEnd_now (s : State) (m : Master) (why : EndReason) :
    (s.sessionEnd m why).now = s.now := rfl
@[simp] theorem State.sessionEnd_lanes (s : State) (m : Master) (why : EndReason) :
    (s.sessionEnd m why).lanes = s.lanes := rfl
@[simp] theorem State.sessionEnd_queue (s : State) (m : Master) (why : EndReason) :
    (s.sessionEnd m why).queue = s.queue := rfl
@[simp] theorem State.sessionEnd_resetHold (s : State) (m : Master) (why : EndReason) :
    (s.sessionEnd m why).resetHold = s.resetHold := rfl
@[simp] theorem State.sessionEnd_pending (s : State) (m : Master) (why : EndReason) :
    (s.sessionEnd m why).pending = s.pending := rfl

/-- The countdown of one lease leaves every other master as it is (R150). -/
theorem State.countLease_master_other (s : State) {m n : Master} (h : n ≠ m) :
    (s.countLease m).master n = s.master n := by
  unfold State.countLease
  split
  · rfl
  · split
    · exact s.sessionEnd_master_other _ h
    · simp [State.onMaster_master, h]

@[simp] theorem State.countLease_now (s : State) (m : Master) : (s.countLease m).now = s.now := by
  unfold State.countLease; split <;> [rfl; (split <;> rfl)]
@[simp] theorem State.countLease_lanes (s : State) (m : Master) : (s.countLease m).lanes = s.lanes := by
  unfold State.countLease; split <;> [rfl; (split <;> rfl)]
@[simp] theorem State.countLease_queue (s : State) (m : Master) : (s.countLease m).queue = s.queue := by
  unfold State.countLease; split <;> [rfl; (split <;> rfl)]

@[simp] theorem State.countLeases_now (s : State) : s.countLeases.now = s.now := by
  simp [State.countLeases, allMasters]
@[simp] theorem State.countLeases_lanes (s : State) : s.countLeases.lanes = s.lanes := by
  simp [State.countLeases, allMasters]
@[simp] theorem State.countLeases_queue (s : State) : s.countLeases.queue = s.queue := by
  simp [State.countLeases, allMasters]

/-- A tick arrival advances *now* by one (R1). -/
@[simp] theorem State.tick_now (s : State) : s.tick.now = s.now + 1 := by
  simp only [State.tick, (State.arbitrate_frame _).now, State.countLeases_now]
  rfl

/-- A tick arrival leaves the Input Queue as it is. -/
@[simp] theorem State.tick_queue (s : State) : s.tick.queue = s.queue := by
  simp only [State.tick, (State.arbitrate_frame _).queue, State.countLeases_queue]
  rfl

/-- A tick arrival retires in every lane, at the advanced *now* (R35, R36). -/
theorem State.tick_lane (s : State) (l : LaneId) :
    s.tick.lane l = ((s.lane l).retireRecord (s.now + 1)).retireGap (s.now + 1) := by
  simp only [State.tick, (State.arbitrate_frame _).lane]
  simp [State.lane, State.expireRequests, State.testReadiness, State.retire, changeAll_eq_map]

/-- The divider reaches the divisor in the period that is due, and brings the tick (R4). -/
theorem State.dividerReachesDivisor_of_due (s : State) (h : s.tickSource = .divided) (hd : s.divisor ≤ s.dividerCount + 1) :
    s.dividerReachesDivisor = ({ s with dividerCount := 0 } : State).tick := by
  simp [State.dividerReachesDivisor, State.dividerDue, h, hd]

/-- In any other period, and under the EXTERNAL source, it does not reach it (R3, R4, R6). -/
theorem State.dividerReachesDivisor_of_not_due (s : State) (h : s.tickSource = .external ∨ s.dividerCount + 1 < s.divisor) :
    s.dividerReachesDivisor = s := by
  rcases h with h | h <;> simp [State.dividerReachesDivisor, State.dividerDue, h]

@[simp] theorem State.dividerReachesDivisor_now (s : State) :
    s.dividerReachesDivisor.now = if s.dividerDue then s.now + 1 else s.now := by
  unfold State.dividerReachesDivisor
  split <;> simp

/-! ### Takings, answers, stores -/

@[simp] theorem State.answer_master_same (s : State) (m : Master) (r : Reply) :
    (s.answer m r).master m = { s.master m with frame := .answering r.answer, sdo := some 0 } := by
  simp [State.answer]

theorem State.answer_master_other (s : State) {m n : Master} (r : Reply) (h : n ≠ m) :
    (s.answer m r).master n = s.master n := by
  simp [State.answer, State.onMaster_master, h]

@[simp] theorem State.answer_now (s : State) (m : Master) (r : Reply) : (s.answer m r).now = s.now := rfl
@[simp] theorem State.answer_lanes (s : State) (m : Master) (r : Reply) : (s.answer m r).lanes = s.lanes := rfl
@[simp] theorem State.answer_queue (s : State) (m : Master) (r : Reply) : (s.answer m r).queue = s.queue := rfl
@[simp] theorem State.answer_serving (s : State) (m : Master) (r : Reply) : (s.answer m r).serving = s.serving := rfl
@[simp] theorem State.answer_claim (s : State) (m : Master) (r : Reply) : (s.answer m r).claim = s.claim := rfl
@[simp] theorem State.answer_pending (s : State) (m : Master) (r : Reply) : (s.answer m r).pending = s.pending := rfl

/-- A store completion changes one lane, and it leaves the lane's settings as they are (R26). -/
theorem State.storeFrame_lane_other (s : State) (f : Frame) {l : LaneId} (h : l ≠ f.lane) :
    (s.storeFrame f).lane l = s.lane l := by
  simp only [State.storeFrame]
  generalize (s.lane f.lane).storeStep s.now (s.protectAge f.lane) f = st
  cases st <;> simp [State.onLane_lane, h]

@[simp] theorem State.storeFrame_lane_same (s : State) (f : Frame) :
    (s.storeFrame f).lane f.lane
      = (s.lane f.lane).applyStore f ((s.lane f.lane).storeStep s.now (s.protectAge f.lane) f) := by
  simp only [State.storeFrame]
  generalize (s.lane f.lane).storeStep s.now (s.protectAge f.lane) f = st
  cases st <;> simp [State.onLane_lane]

/-- No step of the store operation changes a lane's settings (R14, R15, R16). -/
theorem Lane.applyStore_settings (f : Frame) (x : Lane) (st : StoreStep) :
    (x.applyStore f st).enabled = x.enabled ∧ (x.applyStore f st).capacity = x.capacity
      ∧ (x.applyStore f st).deadband = x.deadband ∧ (x.applyStore f st).keepalive = x.keepalive := by
  cases st
  case closeGap => simp only [Lane.applyStore, Lane.closeGap]; split <;> simp [Lane.makeRoom]
  all_goals simp [Lane.applyStore, Lane.extendEqual, Lane.extendGap, Lane.restate, Lane.appendSample, Lane.startGap,
    Lane.makeRoom]

/-- An arriving frame is queued or dropped; no lane keeps more than a loss mark of it (R48 to R51). -/
theorem State.frameArrives_masters (s : State) (f : BitVec 22) : (s.frameArrives f).masters = s.masters := by
  unfold State.frameArrives
  split
  · rfl
  · split
    · rfl
    · split <;> rfl

end Sys2Proof.Machine
end

