-- ==== Sys2Proof/Laws/PerInstr.lean ====
section
/-! SUPPORT. What holds of every command and event as syntax, one lemma for each constructor. The rows
that a command frame carries are exactly the rows of `Command`: each names one port and one command
whose code the part knows. -/

namespace Sys2Proof.Laws

/-- The port and the command of a row that a command frame carries; `none` for an event. -/
def commandOf : Instr → Option (Master × Command)
  | .attach m horizon watchSet lease => some (m, .attach horizon watchSet lease)
  | .detach m => some (m, .detach)
  | .keep m => some (m, .keep)
  | .resetPort m => some (m, .resetPort)
  | .readDevice m => some (m, .readDevice)
  | .submitWindow m trigger pre post lanes control budget label => some (m, .submitWindow trigger pre post lanes control budget label)
  | .cancel m slot => some (m, .cancel slot)
  | .querySlot m slot => some (m, .querySlot slot)
  | .setTemplate m lag pre post lanes control budget label => some (m, .setTemplate lag pre post lanes control budget label)
  | .clearTemplate m => some (m, .clearTemplate)
  | .readItems m largest => some (m, .readItems largest)
  | .setWatermark m watermark => some (m, .setWatermark watermark)
  | .readLane m lane => some (m, .readLane lane)
  | .readFlags m => some (m, .readFlags)
  | .ackFlags m flags => some (m, .ackFlags flags)
  | .setMask m mask => some (m, .setMask mask)
  | .claim m => some (m, .claim)
  | .release m => some (m, .release)
  | .laneSetup m lane enable deadband keepalive => some (m, .laneSetup lane enable deadband keepalive)
  | .partition m lane capacity => some (m, .partition lane capacity)
  | .purgeLanes m lanes => some (m, .purgeLanes lanes)
  | .setTickSource m source divisor => some (m, .setTickSource source divisor)
  | .clearCounters m lanes device => some (m, .clearCounters lanes device)
  | .testCheck m lane => some (m, .testCheck lane)
  | .badCheckFrame .. | .unknownCodeFrame .. | .selectionBegin .. | .selectionEnd .. | .itemRemoval .. |
    .tickArrival | .dividerExpiry | .leaseExpiry .. | .requestExpiry .. | .recordRetirement .. |
    .openGapRetirement .. | .captureEdge .. | .sampleFrameArrival .. | .partialFrameDiscard .. |
    .storeCompletion | .itemCompletion | .powerOnReset | .frameStart .. | .linkBitSampled .. | .byteReceived
    .. | .answerByteShifted .. | .rstRelease | .tickLevelChange .. | .capFallingEdge .. => none

namespace FrameRow

/-- A row that a command frame carries is the row of its command on its port, admits every value of its
operands, and has a code the part knows (R140, R182). -/
def Statement (i : Instr) : Prop :=
  ∀ m c, commandOf i = some (m, c) → i = Machine.rowOf m c ∧ i.wellFormed = true ∧ knownCode c.code = true

theorem attach (m : Master) (horizon : Half) (watchSet : LaneSet) (lease : BitVec 24) : Statement (Instr.attach m horizon watchSet lease) := by
  rintro _ _ ⟨⟩; exact ⟨rfl, rfl, rfl⟩

theorem detach (m : Master) : Statement (Instr.detach m) := by
  rintro _ _ ⟨⟩; exact ⟨rfl, rfl, rfl⟩

theorem keep (m : Master) : Statement (Instr.keep m) := by
  rintro _ _ ⟨⟩; exact ⟨rfl, rfl, rfl⟩

theorem resetPort (m : Master) : Statement (Instr.resetPort m) := by
  rintro _ _ ⟨⟩; exact ⟨rfl, rfl, rfl⟩

theorem readDevice (m : Master) : Statement (Instr.readDevice m) := by
  rintro _ _ ⟨⟩; exact ⟨rfl, rfl, rfl⟩

theorem submitWindow (m : Master) (trigger : Tag) (pre : Half) (post : Half) (lanes : LaneSet) (control : Byte) (budget : Half) (label : Byte) : Statement (Instr.submitWindow m trigger pre post lanes control budget label) := by
  rintro _ _ ⟨⟩; exact ⟨rfl, rfl, rfl⟩

theorem cancel (m : Master) (slot : Byte) : Statement (Instr.cancel m slot) := by
  rintro _ _ ⟨⟩; exact ⟨rfl, rfl, rfl⟩

theorem querySlot (m : Master) (slot : Byte) : Statement (Instr.querySlot m slot) := by
  rintro _ _ ⟨⟩; exact ⟨rfl, rfl, rfl⟩

theorem setTemplate (m : Master) (lag : Half) (pre : Half) (post : Half) (lanes : LaneSet) (control : Byte) (budget : Half) (label : Byte) : Statement (Instr.setTemplate m lag pre post lanes control budget label) := by
  rintro _ _ ⟨⟩; exact ⟨rfl, rfl, rfl⟩

theorem clearTemplate (m : Master) : Statement (Instr.clearTemplate m) := by
  rintro _ _ ⟨⟩; exact ⟨rfl, rfl, rfl⟩

theorem readItems (m : Master) (largest : Byte) : Statement (Instr.readItems m largest) := by
  rintro _ _ ⟨⟩; exact ⟨rfl, rfl, rfl⟩

theorem setWatermark (m : Master) (watermark : Byte) : Statement (Instr.setWatermark m watermark) := by
  rintro _ _ ⟨⟩; exact ⟨rfl, rfl, rfl⟩

theorem readLane (m : Master) (lane : Byte) : Statement (Instr.readLane m lane) := by
  rintro _ _ ⟨⟩; exact ⟨rfl, rfl, rfl⟩

theorem readFlags (m : Master) : Statement (Instr.readFlags m) := by
  rintro _ _ ⟨⟩; exact ⟨rfl, rfl, rfl⟩

theorem ackFlags (m : Master) (flags : Byte) : Statement (Instr.ackFlags m flags) := by
  rintro _ _ ⟨⟩; exact ⟨rfl, rfl, rfl⟩

theorem setMask (m : Master) (mask : Byte) : Statement (Instr.setMask m mask) := by
  rintro _ _ ⟨⟩; exact ⟨rfl, rfl, rfl⟩

theorem claim (m : Master) : Statement (Instr.claim m) := by
  rintro _ _ ⟨⟩; exact ⟨rfl, rfl, rfl⟩

theorem release (m : Master) : Statement (Instr.release m) := by
  rintro _ _ ⟨⟩; exact ⟨rfl, rfl, rfl⟩

theorem laneSetup (m : Master) (lane : Byte) (enable : Byte) (deadband : Half) (keepalive : Half) : Statement (Instr.laneSetup m lane enable deadband keepalive) := by
  rintro _ _ ⟨⟩; exact ⟨rfl, rfl, rfl⟩

theorem partition (m : Master) (lane : Byte) (capacity : Half) : Statement (Instr.partition m lane capacity) := by
  rintro _ _ ⟨⟩; exact ⟨rfl, rfl, rfl⟩

theorem purgeLanes (m : Master) (lanes : LaneSet) : Statement (Instr.purgeLanes m lanes) := by
  rintro _ _ ⟨⟩; exact ⟨rfl, rfl, rfl⟩

theorem setTickSource (m : Master) (source : Byte) (divisor : Half) : Statement (Instr.setTickSource m source divisor) := by
  rintro _ _ ⟨⟩; exact ⟨rfl, rfl, rfl⟩

theorem clearCounters (m : Master) (lanes : LaneSet) (device : Byte) : Statement (Instr.clearCounters m lanes device) := by
  rintro _ _ ⟨⟩; exact ⟨rfl, rfl, rfl⟩

theorem testCheck (m : Master) (lane : Byte) : Statement (Instr.testCheck m lane) := by
  rintro _ _ ⟨⟩; exact ⟨rfl, rfl, rfl⟩

theorem badCheckFrame (m : Master) (frame : List Byte) : Statement (Instr.badCheckFrame m frame) := by
  rintro _ _ ⟨⟩

theorem unknownCodeFrame (m : Master) (code : Byte) : Statement (Instr.unknownCodeFrame m code) := by
  rintro _ _ ⟨⟩

theorem selectionBegin (m : Master) : Statement (Instr.selectionBegin m) := by
  rintro _ _ ⟨⟩

theorem selectionEnd (m : Master) : Statement (Instr.selectionEnd m) := by
  rintro _ _ ⟨⟩

theorem itemRemoval (m : Master) : Statement (Instr.itemRemoval m) := by
  rintro _ _ ⟨⟩

theorem tickArrival : Statement Instr.tickArrival := by
  rintro _ _ ⟨⟩

theorem dividerExpiry : Statement Instr.dividerExpiry := by
  rintro _ _ ⟨⟩

theorem leaseExpiry (m : Master) : Statement (Instr.leaseExpiry m) := by
  rintro _ _ ⟨⟩

theorem requestExpiry (m : Master) (slot : SlotId) : Statement (Instr.requestExpiry m slot) := by
  rintro _ _ ⟨⟩

theorem recordRetirement (lane : LaneId) : Statement (Instr.recordRetirement lane) := by
  rintro _ _ ⟨⟩

theorem openGapRetirement (lane : LaneId) : Statement (Instr.openGapRetirement lane) := by
  rintro _ _ ⟨⟩

theorem captureEdge (m : Master) : Statement (Instr.captureEdge m) := by
  rintro _ _ ⟨⟩

theorem sampleFrameArrival (qsyn : Level) (frame : BitVec 22) : Statement (Instr.sampleFrameArrival qsyn frame) := by
  rintro _ _ ⟨⟩

theorem partialFrameDiscard (qdat : Bool) : Statement (Instr.partialFrameDiscard qdat) := by
  rintro _ _ ⟨⟩

theorem storeCompletion : Statement Instr.storeCompletion := by
  rintro _ _ ⟨⟩

theorem itemCompletion : Statement Instr.itemCompletion := by
  rintro _ _ ⟨⟩

theorem powerOnReset : Statement Instr.powerOnReset := by
  rintro _ _ ⟨⟩

theorem frameStart (qdat : Bool) : Statement (Instr.frameStart qdat) := by
  rintro _ _ ⟨⟩

theorem linkBitSampled (qsyn : Level) (qdat : Bool) : Statement (Instr.linkBitSampled qsyn qdat) := by
  rintro _ _ ⟨⟩

theorem byteReceived (m : Master) (byte : Byte) : Statement (Instr.byteReceived m byte) := by
  rintro _ _ ⟨⟩

theorem answerByteShifted (m : Master) : Statement (Instr.answerByteShifted m) := by
  rintro _ _ ⟨⟩

theorem rstRelease : Statement Instr.rstRelease := by
  rintro _ _ ⟨⟩

theorem tickLevelChange (level : Level) : Statement (Instr.tickLevelChange level) := by
  rintro _ _ ⟨⟩

theorem capFallingEdge (m : Master) : Statement (Instr.capFallingEdge m) := by
  rintro _ _ ⟨⟩

end FrameRow

end Sys2Proof.Laws
end

