-- ==== Sys2Proof/Laws/Search.lean ====
section
/-! SUPPORT. The tests of the search in the numbers of the manual: tag order, window, offset, what a last key
tag has passed, and the lanes of a set in their order. -/

namespace Sys2Proof.Machine

theorem tagBefore_iff (now x y : Tag) : tagBefore now x y = true ↔ TagBefore now x y := by
  unfold tagBefore TagBefore age Config.halfRange
  simp only [Bool.or_eq_true, Bool.and_eq_true, decide_eq_true_eq, beq_iff_eq, Nat.reducePow]

theorem Request.inWindow_iff (r : Request) (x : Tag) : r.inWindow x = true ↔ r.InWindow x := by
  simp [Request.inWindow, Request.InWindow, Request.start]

theorem Request.beforeWindow_iff (r : Request) (x : Tag) : r.beforeWindow x = true ↔ r.BeforeWindow x := by
  simp [Request.beforeWindow, Request.BeforeWindow, ← Request.inWindow_iff, Config.halfRange, Request.start, and_assoc]

/-- The two relations exclude each other (R10). -/
theorem Request.InWindow.not_beforeWindow {r : Request} {x : Tag} (h : r.InWindow x) : ¬ r.BeforeWindow x :=
  fun k => k.1 h

/-- Of two different tags exactly one is before the other (R9). -/
theorem tagBefore_iff_not_after {now x t : Tag} (h : x ≠ t) : TagBefore now x t ↔ ¬ TagBefore now t x := by
  have h1 : (x - t).toNat + (t - x).toNat = 16777216 := by bv_omega
  have h2 : (t - x).toNat = 8388608 → (now - t).toNat < (now - x).toNat ∨ (now - x).toNat < (now - t).toNat := by bv_omega
  have h3 : 1 ≤ (t - x).toNat := by bv_omega
  unfold TagBefore
  omega

theorem offset_eq (now x t : Tag) : offset now x t = tagOffset now x t := by
  by_cases h : x = t
  · subst h; simp [offset, tagOffset, tagBefore]
  · have key : tagBefore now x t = true
        ↔ ¬ ((x - t).toNat < 8388608 ∨ ((x - t).toNat = 8388608 ∧ (now - x).toNat < (now - t).toNat)) := by
      rw [tagBefore_iff, tagBefore_iff_not_after h]
      have : 1 ≤ (x - t).toNat := by bv_omega
      simp only [TagBefore, this, true_and]
    unfold offset tagOffset
    by_cases k : (x - t).toNat < 8388608 ∨ ((x - t).toNat = 8388608 ∧ (now - x).toNat < (now - t).toNat)
    · rw [if_neg (fun q => key.1 q k), if_pos k]
    · rw [if_pos (key.2 k), if_neg k]

/-- The offset of a tag in the window lies between -pre and +post (R12). -/
theorem Request.InWindow.tagOffset_bounds {r : Request} {x : Tag} (now : Tag) (h : r.InWindow x) :
    -(r.pre.toNat : Int) ≤ tagOffset now x r.trigger ∧ tagOffset now x r.trigger ≤ r.post.toNat := by
  unfold Request.InWindow at h
  unfold tagOffset
  have h1 := r.pre.isLt
  have h2 := r.post.isLt
  have h3 : (r.pre.setWidth 24).toNat = r.pre.toNat := by simp; omega
  generalize r.pre.setWidth 24 = p at *
  split <;> bv_omega

/-- A tag is not passed by the last key tag of a position: there is none, or it is before the tag (R111, R112). -/
theorem notPassed_iff (now t : Tag) (last : Option Tag) :
    (last.all fun k => tagBefore now k t) = true ↔ ∀ k, last = some k → TagBefore now k t := by
  cases last <;> simp [tagBefore_iff]

theorem mem_lanesOf (ls : LaneSet) (l : LaneId) : l ∈ lanesOf ls ↔ ls.getLsbD l = true := by
  have : ∀ l : LaneId, l ∈ allLanes := by decide
  simp [lanesOf, inSet, this l]

theorem lanesOf_ascending (ls : LaneSet) : (lanesOf ls).Pairwise (· < ·) :=
  (by decide : allLanes.Pairwise (· < ·)).filter _

/-- An open gap in the window or before it, and not passed, is what the FINISH phase reports (R112). -/
theorem finishReportsGap_iff (now : Tag) (r : Request) (last : Option Tag) (g : OpenGap) :
    finishReportsGap now r last g = true
      ↔ (r.InWindow g.firstLost ∨ r.BeforeWindow g.firstLost) ∧ ∀ k, last = some k → TagBefore now k g.firstLost := by
  simp [finishReportsGap, Request.inWindow_iff, Request.beforeWindow_iff, notPassed_iff]

end Sys2Proof.Machine
end

