-- ==== Sys2Proof/Tests/Slice0.lean ====
section
/-! SUPPORT. Small tests: what the checks of WellFormed refuse, frames and items written out from chapter 11,
single steps from the worked sequences of chapter 12, and for each obligation with hypotheses a state and
operands that meet them. -/

open Sys2Proof Sys2Proof.Machine

namespace Sys2Proof.Tests

/-! ### Builders -/

/-- The state after one row, on a part where every row goes on. -/
def after (i : Instr) (s : State) : State :=
  match exec i s with
  | .next t => t
  | .fault _ => s
  | .refused _ => s

/-- A part with one master changed. -/
def with1 (m : Master) (f : MasterState → MasterState) (s : State) : State := s.onMaster m f

/-- Port `m` newly selected. -/
def selected (m : Master) (s : State) : State := s.onMaster m fun x => { x with frame := .receiving [] }

/-- Port `m` attached with horizon 300, watch set L2 and L5, lease 100 of which 40 remain. -/
def attached (m : Master) (s : State) : State :=
  s.onMaster m fun x => { x with session := some ⟨300, 0x0024, 100, 40⟩ }

/-- A part with a request in slot `i` of master `m`, alone in its admission order. -/
def holding (m : Master) (i : SlotId) (r : Request) (s : State) : State :=
  s.onMaster m fun x => { x.setSlot i (some r) with order := [i] }

/-- An enabled lane with a capacity and records. -/
def laneOf (capacity : Nat) (records : List Record) : Lane :=
  { Lane.reset with enabled := true, capacity, records }

/-- A SAMPLE record with no flags and an agreeing check. -/
def rec0 (k : Nat) (v : Int) : Record := .sample (BitVec.ofNat 24 k) (BitVec.ofInt 16 v) false false true

/-- The bytes composed for the answer being shifted on port `m`. -/
def answerOf (s : State) (m : Master) : List Byte :=
  match (s.master m).frame with
  | .answering a => a.head
  | .receiving _ => []
  | .trailing => []
  | .deselected => []

/-! ### What WellFormed refuses -/

theorem test_wellFormed_refuses_good_sum : Instr.wellFormed (.badCheckFrame 0 [0x21, 0x03, 0xDC]) = false := by decide
theorem test_wellFormed_refuses_wrong_length : Instr.wellFormed (.badCheckFrame 0 [0x21, 0x03]) = false := by decide
theorem test_wellFormed_refuses_no_bytes : Instr.wellFormed (.badCheckFrame 0 []) = false := by decide
theorem test_wellFormed_refuses_known_code : Instr.wellFormed (.unknownCodeFrame 0 0x11) = false := by decide
theorem test_wellFormed_admits : Instr.wellFormed (.badCheckFrame 0 [0x21, 0x03, 0xDD]) = true
    ∧ Instr.wellFormed (.unknownCodeFrame 0 0xFF) = true := by decide

/-! ### Frames and items written out from chapter 11 -/

theorem test_frame_submitWindow :
    decodeFrame [0x20, 0x00, 0x27, 0x10, 0x00, 0x64, 0x00, 0x32, 0x00, 0x4A, 0x02, 0x00, 0x08, 0x22, 0x9D]
      = some (.submitWindow 10000 100 50 0x004A 0x02 8 0x22)
    ∧ byteSum [0x20, 0x00, 0x27, 0x10, 0x00, 0x64, 0x00, 0x32, 0x00, 0x4A, 0x02, 0x00, 0x08, 0x22, 0x9D] = 0 := by decide

theorem test_frame_cancel : decodeFrame [0x21, 0x03, 0xDC] = some (.cancel 3)
    ∧ (Command.cancel 3).frame = [0x21, 0x03, 0xDC] := by decide

theorem test_frame_attach :
    decodeFrame [0x10, 0x01, 0x2C, 0x00, 0x24, 0x00, 0x00, 0x64, 0x3B] = some (.attach 300 0x0024 100) := by decide

theorem test_frame_setTemplate :
    decodeFrame [0x28, 0x00, 0x0A, 0x00, 0xC8, 0x00, 0x28, 0x00, 0x24, 0x02, 0x00, 0x40, 0x41, 0x37]
      = some (.setTemplate 10 200 40 0x0024 0x02 64 0x41)
    ∧ byteSum [0x28, 0x00, 0x0A, 0x00, 0xC8, 0x00, 0x28, 0x00, 0x24, 0x02, 0x00, 0x40, 0x41, 0x37] = 0 := by decide

theorem test_frames_of_buffers_and_flags :
    decodeFrame [0x30, 0x20, 0xB0] = some (.readItems 32) ∧ decodeFrame [0x41, 0x1E, 0xA1] = some (.ackFlags 0x1E) := by decide

theorem test_frames_of_settings :
    decodeFrame [0x53, 0x09, 0x01, 0x00, 0xA3] = some (.partition 9 256)
    ∧ decodeFrame [0x55, 0x01, 0x00, 0x0A, 0xA0] = some (.setTickSource 1 10)
    ∧ decodeFrame [0x38, 0x06, 0xC2] = some (.readLane 6) := by decide

theorem test_frame_unknown : decodeFrame [0xFF, 0x01] = none ∧ frameLength 0xFF = 2 := by decide

/-- L3, value -2, force clear: parity bit 0 (R185). -/
theorem test_sampleFrame_fields :
    frameLane 0b0011111111111111111000#22 = 3 ∧ frameValue 0b0011111111111111111000#22 = BitVec.ofInt 16 (-2)
    ∧ frameForce 0b0011111111111111111000#22 = false ∧ frameOddParity 0b0011111111111111111000#22 = true
    ∧ frameOddParity 0b0011111111111111111010#22 = false ∧ frameOddParity 0b0011111111111111111011#22 = true := by decide

theorem test_item_sample : (Item.sample 2 1 (-50) 12 false false).bytes = [0x68, 0x4F, 0xFE, 0x70, 0x00, 0x0C] := by decide

theorem test_item_close : (Item.close 2 0x22 .complete 6).bytes = [0xE8, 0x00, 0x22, 0x00, 0x00, 0x06] := by decide

/-- The table gives its rows no bits. -/
theorem test_decodeTableWord : decodeTableWord 0 0 = none ∧ State.reset.withFetchWord 0 0 = State.reset := ⟨rfl, rfl⟩

/-! ### A capture window held by a queued frame (12.1) -/

/-- M0 and the lanes as 12.1 begins, at *now* 30,000 and with CAP0 low. -/
def seq1 : State :=
  let s := attached 0 { State.reset with now := 30000 }
  let s := s.onMaster 0 fun x => { x with capLevel := .low, template := some ⟨10, 200, 40, 0x0024, .normal, true, 64, 0x41⟩ }
  (s.setLane 2 (laneOf 256 [rec0 29700 100, rec0 29850 104, rec0 29990 131])).setLane 5 (laneOf 256 [rec0 29780 (-20)])

/-- The request of 12.1. -/
def req1 : Request := Template.request 30000 ⟨10, 200, 40, 0x0024, .normal, true, 64, 0x41⟩

theorem test_captureEdge_admits :
    ((after (.captureEdge 0) seq1).master 0).slot 0 = some req1 ∧ req1.trigger = 29990 ∧ req1.start = 29790
      ∧ req1.stop = 30030 ∧ req1.state = .waiting ∧ ((after (.captureEdge 0) seq1).master 0).order = [0] := by decide

/-- The tick to 30,031 closes the window, but the head frame is tagged at its end. -/
theorem test_tick_waits_for_the_queue :
    (((after (.tickLevelChange .high) { holding 0 0 req1 seq1 with
        now := 30030, tickLevel := .low, queue := [⟨5, BitVec.ofInt 16 (-15), false, 30030⟩] }).master 0).slot 0).map Request.state
      = some .waiting := by decide

/-- The store that removes it makes the slot READY; the engine selects it and moves the NORMAL pointer. -/
theorem test_store_makes_ready :
    let s := after .storeCompletion { holding 0 0 req1 seq1 with
        now := 30031
        queue := [⟨5, BitVec.ofInt 16 (-15), false, 30030⟩, ⟨2, 133, false, 30031⟩] }
    s.serving.map Serving.slot = some 0 ∧ s.normalPtr = 0 ∧ s.urgentPtr = 3
      ∧ (s.lane 5).records = [rec0 29780 (-20), rec0 30030 (-15)] ∧ s.queue.length = 1 := by decide

/-- The first LEAD: offset -290, value 100. -/
theorem test_search_lead :
    seq1.search 0 { req1 with opened := true, resume := some ⟨2, .lead, none, false⟩ }
      = some ⟨.lead 0 2 (-290) 100 false false, some ⟨2, .records, none, true⟩⟩ := by decide

/-- From the last SAMPLE of L2 the search goes on to the LEAD of L5: offset -210, value -20. -/
theorem test_search_next_lane :
    seq1.search 0 { req1 with opened := true, resume := some ⟨2, .records, some 29990, true⟩ }
      = some ⟨.lead 0 5 (-210) (BitVec.ofInt 16 (-20)) false false, some ⟨5, .records, none, true⟩⟩ := by decide

/-- The protect age of L2 at the edge and the anchor at the next tick. -/
theorem test_protection :
    seq1.protectAge 2 = some 300 ∧ unprotectedCount 30000 (some 300) [rec0 29700 100, rec0 29850 104] = 0
      ∧ unprotectedCount 30001 (some 300) [rec0 29600 1, rec0 29700 100, rec0 29850 104] = 1 := by decide

/-! ### Setting aside (12.2) -/

/-- The slot of 12.2 while set aside for want of room. -/
def req2 : Request :=
  { Request.fresh .command .normal 50000 100 0 0x0001 false 100 0x13 with
    state := .ready, opened := true, itemsWritten := 7, resume := some ⟨0, .records, some 49970, true⟩ }

theorem test_querySlot_bytes : slotByte (some req2) = 0x22 ∧ resumeByte req2.resume = 0xA0 := by decide

/-! ### A gap under horizon protection (12.3) -/

/-- L6 as 12.3 begins. -/
def lane6 : Lane :=
  { laneOf 8 [rec0 1000 0, rec0 1010 1, rec0 1020 2, rec0 1030 3, rec0 1040 4, rec0 1050 5, rec0 1060 6, rec0 1070 7] with stored := 8 }

theorem test_store_opens_gap :
    lane6.storeStep 1080 (some 100) ⟨6, 50, false, 1080⟩ = .openGap
      ∧ (lane6.applyStore ⟨6, 50, false, 1080⟩ .openGap).openGap = some ⟨1080, 1080, 1⟩ := by decide

/-- At 1,120 one place cannot take both records; at 1,130 two places close the gap. -/
theorem test_store_closes_gap :
    let x := { lane6 with openGap := some ⟨1080, 1120, 6⟩, lost := 6 }
    { x with openGap := some ⟨1080, 1110, 5⟩ }.storeStep 1120 (some 100) ⟨6, 9, false, 1120⟩ = .extend
      ∧ x.storeStep 1130 (some 100) ⟨6, 9, false, 1130⟩ = .closeGap
      ∧ (x.applyStore ⟨6, 9, false, 1130⟩ .closeGap).records
          = [rec0 1020 2, rec0 1030 3, rec0 1040 4, rec0 1050 5, rec0 1060 6, rec0 1070 7, .gap 1080 1120 6 true, rec0 1130 9]
      ∧ (x.applyStore ⟨6, 9, false, 1130⟩ .closeGap).stored = 9 := by decide

/-- The window 1,070 to 1,110 over L6 after the closure: the SAMPLE at -30, then the GAP at -20, then nothing. -/
theorem test_search_gap :
    let r := Request.fresh .command .normal 1100 30 10 0x0040 false 100 0
    let x := laneOf 8
      [rec0 1020 2, rec0 1030 3, rec0 1040 4, rec0 1050 5, rec0 1060 6, rec0 1070 7, .gap 1080 1120 6 true, rec0 1130 9]
    searchLane 1140 0 r x ⟨6, .lead, none, false⟩ = some ⟨.sample 0 6 (-30) 7 false false, some ⟨6, .records, some 1070, true⟩⟩
      ∧ searchLane 1140 0 r x ⟨6, .records, some 1070, true⟩ = some ⟨.gap 0 6 (-20) 6 false false, some ⟨6, .records, some 1080, true⟩⟩
      ∧ searchLane 1140 0 r x ⟨6, .records, some 1080, true⟩ = none := by decide

/-! ### Claim contention (12.4) -/

theorem test_claim_held :
    answerOf (after (.claim 0) (selected 0 (attached 0 { State.reset with claim := some 2 }))) 0 = [0x0C, 0x82] := by decide

/-- A pool of 200 and an increase of 128 leave 72. -/
theorem test_partition_pool :
    let s := { (selected 2 (attached 2 State.reset)).setLane 9 { laneOf 128 [] with enabled := false } with claim := some 2 }
    let s := ((s.setLane 0 { Lane.reset with capacity := 2048 }).setLane 1 { Lane.reset with capacity := 1720 })
    answerOf (after (.partition 2 9 256) s) 2 = [0x00, 0x00, 72] := by decide

/-! ### Other single steps -/

/-- A KEEP from an attached port: *now*, attached, the 40 ticks that were left. -/
theorem test_keep : answerOf (after (.keep 1) (selected 1 (attached 1 { State.reset with now := 0x010203 }))) 1
    = [0x00, 0x01, 0x02, 0x03, 0x01, 0x00, 0x00, 40] := by decide

/-- A lease of one tick ends at the tick, and ENDED is set. -/
theorem test_lease_ends :
    let s := after .tickArrival { (State.reset.onMaster 1 fun x => { x with session := some ⟨0, 0, 1, 1⟩ }) with tickLevel := .low }
    (s.master 1).session = none ∧ (s.master 1).lastEnd = .lease ∧ (s.master 1).ended = true ∧ s.now = 1 := by decide

/-- Divisor 0 stands for 65,536. -/
theorem test_setTickSource_zero :
    (after (.setTickSource 0 1 0) (selected 0 (attached 0 { State.reset with claim := some 0 }))).divisor = 65536 := by decide

/-- A divider about to reach D = 2: taken before SET TICK SOURCE the expiry ticks once, taken after it not at all
(R6, the last two rows). -/
theorem test_dividerExpiry_and_setTickSource :
    let s := selected 0 (attached 0 { State.reset with claim := some 0, tickSource := .divided, divisor := 2, dividerCount := 1 })
    (after (.setTickSource 0 1 2) (after .dividerExpiry s)).now = 1
      ∧ (after .dividerExpiry (after (.setTickSource 0 1 2) s)).now = 0 := by decide

/-- After reset: *now* 0, pool 4,096, no holder, nobody attached, IDLE, queue empty, EXTERNAL, divisor 1, counters 0. -/
theorem test_readDevice_after_reset :
    answerOf (after (.readDevice 3) (selected 3 State.reset)) 3
      = [0x00, 0, 0, 0, 0x10, 0x00, 0x00, 0x00, 0x00, 0x00, 0x00, 0x00, 0x01] ++ List.replicate 12 0 := by decide

/-- After reset: no flag, mask 0, count 0, watermark 128, last end POWER, refusals 0, reason NONE. -/
theorem test_readFlags_after_reset :
    answerOf (after (.readFlags 0) (selected 0 State.reset)) 0 = [0x00, 0x00, 0x00, 0x00, 0x80, 0x04, 0x00, 0x00, 0x00] := by decide

/-- Bits 7 to 5 of a mask are ignored. -/
theorem test_setMask_bits : answerOf (after (.setMask 0 0xFF) (selected 0 State.reset)) 0 = [0x00, 0x1F] := by decide

/-- A WAITING slot that is cancelled is CLOSING with ending CANCELLED in the answer, and is then selected. -/
theorem test_cancel_answer :
    let s := after (.cancel 0 0) (selected 0 (holding 0 0 req1 seq1))
    answerOf s 0 = [0x00, 0x04, 0x82] ∧ s.serving.map (fun v => v.flight.item) = some (.close 0 0x41 .cancelled 0) := by decide

/-- Use-now takes *now* as the trigger tag; the answer carries the slot and the tag. -/
theorem test_submitWindow_use_now :
    answerOf (after (.submitWindow 0 5 10 10 0x0004 0x04 8 7) (selected 0 seq1)) 0 = [0x00, 0x00, 0x00, 0x75, 0x30] := by decide

/-- A capture edge on a detached port is refused. -/
theorem test_captureEdge_refused :
    let s := after (.captureEdge 2) (State.reset.onMaster 2 fun x => { x with capLevel := .low, refusals := 65535 })
    (s.master 2).refused = true ∧ (s.master 2).refusals = 65535 ∧ (s.master 2).lastRefusal = .notAttached := by decide

/-- A frame cut short after a byte is counted; after none it is not. -/
theorem test_selectionEnd_counts :
    ((after (.selectionEnd 0) (after (.byteReceived 0 0x20) (selected 0 State.reset))).master 0).frameErrors = 1
      ∧ ((after (.selectionEnd 0) (selected 0 State.reset)).master 0).frameErrors = 0 := by decide

/-- The check byte of KEEP takes the frame; a wrong one is answered BAD_CHECK. -/
theorem test_byteReceived_takes :
    answerOf (after (.byteReceived 0 0xEE) (after (.byteReceived 0 0x12) (selected 0 State.reset))) 0 = [0x00, 0, 0, 0, 0, 0, 0, 0]
      ∧ answerOf (after (.byteReceived 0 0xEF) (after (.byteReceived 0 0x12) (selected 0 State.reset))) 0 = [0x01] := by decide

/-- A sync edge cuts a partial frame short and starts a new one with its bit. -/
theorem test_partialFrameDiscard :
    let s := after (.partialFrameDiscard true)
      { State.reset with qsynLevel := .low, assembly := .assembling (List.replicate 21 false) }
    s.framingErrors = 1 ∧ s.assembly = .assembling [true] := by decide

/-- A frame that meets a full queue leaves its lane marked. -/
theorem test_sampleFrame_overflow :
    let s := after (.sampleFrameArrival .low 0b0011111111111111111000#22)
      { State.reset.setLane 3 (laneOf 4 []) with qsynLevel := .low, queue := List.replicate 16 ⟨0, 0, false, 0⟩ }
    s.queueOverflows = 1 ∧ (s.lane 3).lossMark = true ∧ s.queue.length = 16 := by decide

/-- The OPEN completes: opened, no item counted, and the LEAD of L2 in flight (12.1, rows 1 and 2). -/
theorem test_itemCompletion_open :
    let s := after .itemCompletion
      { holding 0 0 { req1 with state := .active } seq1 with serving := some ⟨0, 0, Request.openFlight 0 req1⟩ }
    (s.master 0).items = [.opened 0 .capture .normal true 0x41 29990 2]
      ∧ ((s.master 0).slot 0).map (fun r => (r.opened, r.itemsWritten, r.resume)) = some (true, 0, some ⟨2, .lead, none, false⟩)
      ∧ s.serving.map (fun v => v.flight.item) = some (.lead 0 2 (-290) 100 false false) := by decide

/-- Only the lanes of the set are emptied. -/
theorem test_purge :
    let s := { (selected 0 seq1) with claim := some 0 }
    ((after (.purgeLanes 0 0x0004) s).lane 2).records = [] ∧ ((after (.purgeLanes 0 0x0004) s).lane 5).records = [rec0 29780 (-20)] := by
  decide

/-! ### States and operands that meet the hypotheses of the obligations -/

/-- A newly selected port can receive every frame. -/
theorem receives_selected (m : Master) (s : State) (frame : List Byte) (h : s.resetHold = false) (hf : 0 < frame.length) :
    (selected m s).Receives m frame := by
  refine ⟨h, [], ?_, List.nil_prefix, hf⟩
  simp only [selected, State.onMaster, State.setMaster, State.master]
  exact congrArg MasterState.frame (Vector.getElem_set_self (xs := s.masters) m.isLt)

/-- A part newly reset, port 0 selected. -/
def detached0 : State := selected 0 State.reset

/-- The same at *now* 1,000, with M0 attached (horizon 300, watch set L2 and L5). -/
def attached0 : State := selected 0 (attached 0 { State.reset with now := 1000 })

/-- The same with M0 holding the claim. -/
def holder0 : State := { attached0 with claim := some 0 }

/-- A request of 1,000 - 100 to 1,000, on L2. -/
def reqA : Request := Request.fresh .command .normal 1000 100 0 0x0004 false 2 7

/-- M0 attached with that request in slot 7, in a given state and with a given ending. -/
def slot7 (st : SlotState) (e : Option Ending) : State :=
  selected 0 (holding 0 7 { reqA with state := st, ending := e } (attached 0 { State.reset with now := 1001 }))

/-- M0 attached with all eight slots taken. -/
def full0 : State :=
  attached0.onMaster 0 fun x => { x with slots := Vector.replicate 8 (some reqA), order := allSlots }

theorem witness_StepRunsTheFrontCommand :
    ({ State.reset with pending := [.tickArrival] } : State).pending = .tickArrival :: [] := rfl

theorem witness_IdleStepsPassClockPeriods :
    let s : State := { State.reset with tickSource := .divided }
    let t : State := { s with divisor := 65536 }
    (s.pending = [] ∧ s.resetHold = false ∧ s.tickSource = .divided ∧ s.dividerCount = 0 ∧ 1 ≤ s.divisor ∧ 0 < s.divisor)
      ∧ (t.pending = [] ∧ t.resetHold = false ∧ t.dividerCount = 0 ∧ 1 ≤ t.divisor ∧ 65535 < t.divisor) := by decide

theorem witness_TicksComeFromTheirSource :
    let s : State := { State.reset with tickLevel := .low }
    (s.resetHold = false ∧ s.tickSource = .external ∧ s.tickLevel = .low)
      ∧ (State.reset.resetHold = false ∧ State.reset.tickLevel = .high)
      ∧ (let d : State := { State.reset with tickSource := .divided, divisor := 65536 }
        d.tickSource = .divided ∧ d.dividerCount + 1 < d.divisor
          ∧ { d with dividerCount := 65534 }.dividerCount + 1 < d.divisor
          ∧ d.divisor ≤ { d with dividerCount := 65535 }.dividerCount + 1)
      ∧ State.reset.tickSource = .external := by decide

theorem witness_TickReactions :
    (State.reset.master 0).session = none
      ∧ ((attached 0 State.reset).master 0).session = some ⟨300, 0x0024, 100, 40⟩ ∧ 2 ≤ 40
      ∧ ((State.reset.onMaster 0 fun x => { x with session := some ⟨0, 0, 1, 1⟩ }).master 0).session = some ⟨0, 0, 1, 1⟩
      ∧ 1 ≤ 1 := by decide

/-- The window end one tick past, the head frame one tick after the window; then each reason to wait. -/
theorem witness_ReadinessNeedsTimeAndQueue :
    (reqA.state = .waiting ∧ ((1001 : Tag) - (reqA.trigger + reqA.post.setWidth 24)).toNat = 1
        ∧ ((8389607 : Tag) - (reqA.trigger + reqA.post.setWidth 24)).toNat = 8388607
        ∧ reqA.pre.toNat + reqA.post.toNat < ((1001 : Tag) - (reqA.trigger - reqA.pre.setWidth 24)).toNat
        ∧ ((1001 : Tag) - (reqA.trigger - reqA.pre.setWidth 24)).toNat < 8388608)
      ∧ ({ reqA with state := .ready } : Request).state ≠ .waiting
      ∧ ((1000 : Tag) - (reqA.trigger + reqA.post.setWidth 24)).toNat = 0
      ∧ ((8389608 : Tag) - (reqA.trigger + reqA.post.setWidth 24)).toNat = 8388608
      ∧ ((1000 : Tag) - (reqA.trigger - reqA.pre.setWidth 24)).toNat = reqA.pre.toNat + reqA.post.toNat
      ∧ ((8389508 : Tag) - (reqA.trigger - reqA.pre.setWidth 24)).toNat = 8388608 := by decide

theorem witness_LeaseExpiryEndsTheSession :
    let s := State.reset.onMaster 0 fun x => { x with session := some ⟨0, 0, 5, 1⟩ }
    let t := State.reset.onMaster 0 fun x => { x with session := some ⟨0, 0, 5, 2⟩ }
    (s.resetHold = false ∧ (s.master 0).session = some ⟨0, 0, 5, 1⟩ ∧ (1 : Nat) ≤ 1)
      ∧ (t.resetHold = false ∧ (t.master 0).session = some ⟨0, 0, 5, 2⟩ ∧ (2 : Nat) ≤ 2) := by decide

theorem witness_RequestExpiryDecidesExpired :
    let s : State := { slot7 .ready none with now := 4195204 }
    let t : State := { slot7 .ready none with now := 4195203 }
    (s.resetHold = false ∧ (s.master 0).slot 7 = some { reqA with state := .ready } ∧ reqA.ending = none
        ∧ (s.now - (reqA.trigger - reqA.pre.setWidth 24)).toNat = 4194304)
      ∧ (t.master 0).slot 7 = some { reqA with state := .ready }
      ∧ (t.now - (reqA.trigger - reqA.pre.setWidth 24)).toNat = 4194303 := by decide

theorem witness_RetirementAtHalfTheRange :
    let s : State := { State.reset.setLane 2 { laneOf 4 [rec0 0 1] with openGap := some ⟨0, 5, 2⟩ } with now := 8388608 }
    let t : State := { s with now := 8388607 }
    s.resetHold = false ∧ (s.lane 2).records = rec0 0 1 :: [] ∧ (s.now - (rec0 0 1).key).toNat = 8388608
      ∧ (s.lane 2).openGap = some ⟨0, 5, 2⟩ ∧ (s.now - 0).toNat = 8388608
      ∧ (t.lane 2).records.head? = some (rec0 0 1) ∧ (t.now - (rec0 0 1).key).toNat ≠ 8388608
      ∧ (t.now - 0).toNat ≠ 8388608 := by decide

theorem witness_GoodFramesAreTheirCommandsFrames :
    knownCode 0x21 = true ∧ wellSizedFrame [0x21, 0x03, 0xDC] = true ∧ byteSum [0x21, 0x03, 0xDC] = 0 := by decide

theorem witness_BytesOfAFrameTakeItsCommand :
    attached0.resetHold = false ∧ (attached0.master 0).frame = .receiving [] := by decide

theorem witness_BytesGatherUntilTheCheckByte :
    let s := attached0.onMaster 0 fun x => { x with frame := .receiving [0x11] }
    let t := attached0.onMaster 0 fun x => { x with frame := .receiving [0xFF] }
    let u := attached0.onMaster 0 fun x => { x with frame := .receiving [0x21] }
    (s.resetHold = false ∧ (s.master 0).frame = .receiving [0x11] ∧ wellSizedFrame ([0x11] ++ [0xEE]) = true
        ∧ byteSum ([0x11] ++ [0xEE]) ≠ 0 ∧ Command.detach.frame = [0x11] ++ [0xEF])
      ∧ ((t.master 0).frame = .receiving [0xFF] ∧ wellSizedFrame ([0xFF] ++ [0x01]) = true ∧ knownCode 0xFF = false
        ∧ byteSum ([0xFF] ++ [0x01]) = 0)
      ∧ ((attached0.master 0).frame = .receiving [] ∧ ([] ++ [0x11] : List Byte).length < frameLength 0x11)
      ∧ ((u.master 0).frame = .receiving [0x21] ∧ ([0x21] ++ [0x03] : List Byte).length < frameLength 0x21)
      ∧ (State.reset.master 0).frame = .deselected := by decide

theorem witness_a_row_that_cannot_be_received : ¬ State.reset.Receives 0 Command.detach.frame := by
  rintro ⟨-, got, h, -⟩
  cases h

theorem witness_LinkEdgesDeliverTheirFrame :
    let s : State := { State.reset with qsynLevel := .low }
    s.resetHold = false ∧ s.qsynLevel = .low ∧ s.assembly = .idle := by decide

theorem witness_AttachOpensTheSession :
    (detached0.Receives 0 (Command.attach 300 0x0024 1).frame ∧ attached0.Receives 0 (Command.attach 300 0x0024 1).frame)
      ∧ (detached0.master 0).session = none ∧ (attached0.master 0).session ≠ none
      ∧ 1 ≤ (1 : BitVec 24).toNat ∧ (1048575 : BitVec 24).toNat ≤ 1048575
      ∧ (0 : BitVec 24).toNat = 0 ∧ 1048575 < (1048576 : BitVec 24).toNat :=
  ⟨⟨receives_selected 0 _ _ rfl (by decide), receives_selected 0 _ _ rfl (by decide)⟩, by decide⟩

theorem witness_DetachAndResetPortEndTheSession :
    (detached0.Receives 0 Command.detach.frame ∧ attached0.Receives 0 Command.resetPort.frame)
      ∧ (detached0.master 0).session = none ∧ (attached0.master 0).session ≠ none :=
  ⟨⟨receives_selected 0 _ _ rfl (by decide), receives_selected 0 _ _ rfl (by decide)⟩, by decide⟩

theorem witness_KeepReportsAndRenews :
    (detached0.Receives 0 Command.keep.frame ∧ attached0.Receives 0 Command.keep.frame)
      ∧ (detached0.master 0).session = none ∧ (attached0.master 0).session = some ⟨300, 0x0024, 100, 40⟩ :=
  ⟨⟨receives_selected 0 _ _ rfl (by decide), receives_selected 0 _ _ rfl (by decide)⟩, by decide⟩

theorem witness_ReadDeviceReportsThePart : detached0.Receives 0 Command.readDevice.frame :=
  receives_selected 0 _ _ rfl (by decide)

/-- At *now* 1,000: the trigger present, the start at the horizon; the trigger 65,535 ahead; use-now; slot 1
the lowest FREE one. -/
theorem witness_SubmitWindowAdmits :
    let s := attached0.onMaster 0 fun x => x.setSlot 0 (some reqA)
    s.Receives 0 (Command.submitWindow 1000 300 0 0x0024 0x00 4096 7).frame
      ∧ (s.master 0).LowestFree 1 ∧ (attached0.master 0).LowestFree 0
      ∧ (s.master 0).session = some ⟨300, 0x0024, 100, 40⟩ ∧ BudgetOk 1 ∧ BudgetOk 4096
      ∧ LanesOk 0x0024 0x0024 ∧ LanesOk 0x0004 0x0024
      ∧ (1000 : Tag) = (if (0x00 : Byte).getLsbD 2 then s.now else 1000)
      ∧ (1000 : Tag) = (if (0x04 : Byte).getLsbD 2 then s.now else 55)
      ∧ TriggerOk s.now 1000 ∧ TriggerOk s.now 66535 ∧ StartOk s.now (1000 - (300 : Half).setWidth 24) 300
      ∧ StartOk s.now (66535 - (0 : Half).setWidth 24) 300 :=
  ⟨⟨rfl, [], rfl, List.nil_prefix, by decide⟩, ⟨rfl, by decide⟩, ⟨rfl, by decide⟩, by decide⟩

theorem witness_SubmitWindowRefusals :
    (detached0.Receives 0 (Command.submitWindow 1000 301 0 0x0024 0x00 4097 7).frame
        ∧ full0.Receives 0 (Command.submitWindow 1000 300 0 0x0024 0x00 4096 7).frame)
      ∧ (detached0.master 0).session = none ∧ (full0.master 0).session = some ⟨300, 0x0024, 100, 40⟩
      ∧ ¬ BudgetOk 0 ∧ ¬ BudgetOk 4097 ∧ BudgetOk 4096 ∧ ¬ LanesOk 0 0x0024 ∧ ¬ LanesOk 0x0025 0x0024 ∧ LanesOk 0x0024 0x0024
      ∧ (66536 : Tag) = (if (0x00 : Byte).getLsbD 2 then full0.now else 66536) ∧ ¬ TriggerOk full0.now 66536
      ∧ TriggerOk full0.now 1000 ∧ ¬ StartOk full0.now (1000 - (301 : Half).setWidth 24) 300
      ∧ StartOk full0.now (1000 - (300 : Half).setWidth 24) 300 ∧ ∀ i, (full0.master 0).slot i ≠ none :=
  ⟨⟨receives_selected 0 _ _ rfl (by decide), ⟨rfl, [], rfl, List.nil_prefix, by decide⟩⟩, by decide⟩

theorem witness_CancelDecidesCancelled :
    (detached0.Receives 0 (Command.cancel 7).frame ∧ (slot7 .active none).Receives 0 (Command.cancel 7).frame)
      ∧ (detached0.master 0).session = none ∧ ((slot7 .active none).master 0).session ≠ none
      ∧ 8 ≤ (8 : Byte).toNat ∧ (7 : Byte).toNat = (7 : SlotId).val ∧ (attached0.master 0).slot 7 = none
      ∧ ((slot7 .active none).master 0).slot 7 = some { reqA with state := .active }
      ∧ ((slot7 .waiting none).master 0).slot 7 = some reqA
      ∧ ((slot7 .ready none).master 0).slot 7 = some { reqA with state := .ready }
      ∧ ((slot7 .closing (some .expired)).master 0).slot 7 = some { reqA with state := .closing, ending := some .expired }
      ∧ ((slot7 .active (some .complete)).master 0).slot 7 = some { reqA with state := .active, ending := some .complete } :=
  ⟨⟨receives_selected 0 _ _ rfl (by decide), receives_selected 0 _ _ rfl (by decide)⟩, by decide⟩

theorem witness_QuerySlotReportsTheSlot :
    (detached0.Receives 0 (Command.querySlot 7).frame ∧ attached0.Receives 0 (Command.querySlot 8).frame)
      ∧ (detached0.master 0).session = none ∧ (attached0.master 0).session ≠ none ∧ 8 ≤ (8 : Byte).toNat
      ∧ (7 : Byte).toNat = (7 : SlotId).val ∧ (attached0.master 0).slot 7 = none
      ∧ ((slot7 .ready none).master 0).slot 7 = some { reqA with state := .ready } :=
  ⟨⟨receives_selected 0 _ _ rfl (by decide), receives_selected 0 _ _ rfl (by decide)⟩, by decide⟩

theorem witness_TemplatesAreStoredAndCleared :
    (detached0.Receives 0 (Command.setTemplate 100 200 0 0x0024 0 64 7).frame
        ∧ attached0.Receives 0 (Command.setTemplate 101 200 0 0x0024 0 64 7).frame
        ∧ detached0.Receives 0 Command.clearTemplate.frame ∧ attached0.Receives 0 Command.clearTemplate.frame)
      ∧ (detached0.master 0).session = none ∧ (attached0.master 0).session = some ⟨300, 0x0024, 100, 40⟩
      ∧ ¬ BudgetOk 4097 ∧ BudgetOk 64 ∧ ¬ LanesOk 0x0001 0x0024 ∧ LanesOk 0x0024 0x0024
      ∧ (300 : Half).toNat < (101 : Half).toNat + (200 : Half).toNat
      ∧ (100 : Half).toNat + (200 : Half).toNat ≤ (300 : Half).toNat ∧ (attached0.master 0).session ≠ none :=
  ⟨⟨receives_selected 0 _ _ rfl (by decide), receives_selected 0 _ _ rfl (by decide),
    receives_selected 0 _ _ rfl (by decide), receives_selected 0 _ _ rfl (by decide)⟩, by decide⟩

theorem witness_CaptureEdgesAreSettled :
    let low := fun s : State => s.onMaster 0 fun x => { x with capLevel := .low }
    let tmpl := fun s : State => s.onMaster 0 fun x => { x with template := some ⟨0, 0, 0, 0x0004, .normal, false, 1, 7⟩ }
    ((State.reset.master 0).capLevel = .high ∧ State.reset.resetHold = false)
      ∧ (((low State.reset).master 0).capLevel = .low ∧ ((low State.reset).master 0).session = none)
      ∧ (((low attached0).master 0).session ≠ none ∧ ((low attached0).master 0).template = none)
      ∧ (((low (tmpl full0)).master 0).template ≠ none ∧ ∀ i, ((low (tmpl full0)).master 0).slot i ≠ none)
      ∧ ((low (tmpl attached0)).master 0).template = some ⟨0, 0, 0, 0x0004, .normal, false, 1, 7⟩
      ∧ ((low (tmpl attached0)).master 0).LowestFree 0 :=
  ⟨by decide, by decide, by decide, by decide, by decide, rfl, by decide⟩

theorem witness_ReadItemsFixesItsCount :
    (detached0.Receives 0 (Command.readItems 1).frame ∧ attached0.Receives 0 (Command.readItems 32).frame)
      ∧ (detached0.master 0).session = none ∧ (attached0.master 0).session ≠ none
      ∧ (0 : Byte).toNat = 0 ∧ 32 < (33 : Byte).toNat ∧ 1 ≤ (1 : Byte).toNat ∧ (32 : Byte).toNat ≤ 32 :=
  ⟨⟨receives_selected 0 _ _ rfl (by decide), receives_selected 0 _ _ rfl (by decide)⟩, by decide⟩

/-- M0 answering a READ ITEMS of two groups, `k` bytes shifted, with one item in its buffer. -/
def answering (k : Nat) (cut : Bool) : State :=
  (attached 0 State.reset).onMaster 0 fun x => { x with
    frame := .answering { head := [0, 2], groups := 2, ofReadItems := true, cut, shifted := k }
    items := [.empty 1 2], reading := some ⟨2, 0⟩ }

theorem witness_AnswerBytesAreShiftedInOrder :
    let a : Answer := { head := [0, 2], groups := 2, ofReadItems := true, cut := false, shifted := 7 }
    (State.reset.resetHold = false ∧ (State.reset.master 0).frame = .deselected ∧ (detached0.master 0).frame = .receiving [])
      ∧ ((answering 1 false).master 0).frame = .answering { a with shifted := 1 } ∧ ({ a with shifted := 1 } : Answer).head[1]? = some 2
      ∧ ((answering 13 true).master 0).frame = .answering { a with shifted := 13, cut := true } ∧ 13 < 2 + 6 * 2
      ∧ ((answering 7 false).master 0).frame = .answering a ∧ a.shifted < a.head.length + 6 * a.groups
      ∧ ((answering 7 false).master 0).items = .empty 1 2 :: [] ∧ a.head.length ≤ a.shifted ∧ a.cut = false
      ∧ (7 - a.head.length) % 6 = 5 ∧ (6 - a.head.length) % 6 < 5 := by decide

theorem witness_ItemRemovalTakesTheOldest :
    let a : Answer := { head := [0, 2], groups := 2, ofReadItems := true, cut := false, shifted := 13 }
    (answering 13 false).resetHold = false ∧ ((answering 13 false).master 0).frame = .answering a ∧ a.cut = false
      ∧ ((answering 13 false).master 0).items = .empty 1 2 :: [] ∧ (a.shifted - a.head.length) / 6 < a.groups
      ∧ 2 ≤ (14 - a.head.length) / 6 := by decide

theorem witness_WatermarkAndMaskAreStored :
    (detached0.Receives 0 (Command.setWatermark 128).frame ∧ detached0.Receives 0 (Command.setMask 0xFF).frame)
      ∧ 1 ≤ (1 : Byte).toNat ∧ (128 : Byte).toNat ≤ 128 ∧ (0 : Byte).toNat = 0 ∧ 128 < (129 : Byte).toNat :=
  ⟨⟨receives_selected 0 _ _ rfl (by decide), receives_selected 0 _ _ rfl (by decide)⟩, by decide⟩

theorem witness_FlagsAreReadAndAcknowledged :
    detached0.Receives 0 Command.readFlags.frame ∧ detached0.Receives 0 (Command.ackFlags 0xFF).frame :=
  ⟨receives_selected 0 _ _ rfl (by decide), receives_selected 0 _ _ rfl (by decide)⟩

theorem witness_ClaimIsHeldByOneMasterAtATime :
    (detached0.Receives 0 Command.claim.frame ∧ attached0.Receives 0 Command.claim.frame
        ∧ detached0.Receives 0 Command.release.frame ∧ attached0.Receives 0 Command.release.frame
        ∧ holder0.Receives 0 Command.release.frame)
      ∧ (detached0.master 0).session = none ∧ (attached0.master 0).session ≠ none ∧ attached0.claim = none
      ∧ (holder0.master 0).session ≠ none ∧ holder0.claim = some 0
      ∧ ({ attached0 with claim := some 3 } : State).claim = some 3 ∧ (3 : Master) ≠ 0 :=
  ⟨⟨receives_selected 0 _ _ rfl (by decide), receives_selected 0 _ _ rfl (by decide),
    receives_selected 0 _ _ rfl (by decide), receives_selected 0 _ _ rfl (by decide), ⟨rfl, [], rfl, List.nil_prefix, by decide⟩⟩,
    by decide⟩

theorem witness_ClaimOnlyCommandsNeedTheClaim :
    (detached0.Receives 0 (Command.testCheck 99).frame ∧ attached0.Receives 0 (Command.partition 99 3).frame)
      ∧ (detached0.master 0).session = none ∧ (attached0.master 0).session ≠ none ∧ attached0.claim ≠ some 0 :=
  ⟨⟨receives_selected 0 _ _ rfl (by decide), receives_selected 0 _ _ rfl (by decide)⟩, by decide⟩

theorem witness_LaneSettingsAndTheArmAreStored :
    (holder0.Receives 0 (Command.laneSetup 15 1 0 0).frame ∧ holder0.Receives 0 (Command.testCheck 15).frame)
      ∧ (holder0.master 0).session ≠ none ∧ holder0.claim = some 0 ∧ 16 ≤ (16 : Byte).toNat ∧ (15 : Byte).toNat = (15 : LaneId).val
      ∧ (1 : Byte).getLsbD 0 = true ∧ (holder0.lane 15).capacity < 4 ∧ (0 : Byte).getLsbD 0 = false
      ∧ 4 ≤ ((holder0.setLane 15 (laneOf 4 [])).lane 15).capacity :=
  ⟨⟨⟨rfl, [], rfl, List.nil_prefix, by decide⟩, ⟨rfl, [], rfl, List.nil_prefix, by decide⟩⟩, by decide⟩

theorem witness_PartitionMovesPlaces :
    let busy := (slot7 .closing (some .expired))
    let tight := (holder0.setLane 0 { Lane.reset with capacity := 2048 }).setLane 1 { Lane.reset with capacity := 2044 }
    holder0.Receives 0 (Command.partition 15 4).frame
      ∧ (holder0.master 0).session ≠ none ∧ holder0.claim = some 0
      ∧ 16 ≤ (16 : Byte).toNat ∧ (1 ≤ (3 : Half).toNat ∧ (3 : Half).toNat < 4) ∧ 2048 < (2049 : Half).toNat
      ∧ (15 : Byte).toNat = (15 : LaneId).val ∧ (0 : Half).toNat = 0 ∧ 4 ≤ (4 : Half).toNat ∧ (2048 : Half).toNat ≤ 2048
      ∧ ((holder0.setLane 15 (laneOf 4 [])).lane 15).enabled = true
      ∧ ((busy.lane 2).enabled = false ∧ (busy.master 0).slot 7 = some { reqA with state := .closing, ending := some .expired }
        ∧ reqA.lanes.getLsbD (2 : LaneId) = true)
      ∧ ((tight.lane 15).enabled = false ∧ (∀ n i, (tight.master n).slot i = none)
        ∧ (allLanes.map fun k => (tight.lane k).capacity).sum = 4092
        ∧ (tight.lane 15).capacity + (4096 - 4092) < (5 : Half).toNat
        ∧ (4 : Half).toNat ≤ (tight.lane 15).capacity + (4096 - 4092)) :=
  ⟨⟨rfl, [], rfl, List.nil_prefix, by decide⟩, by decide⟩

theorem witness_PurgeEmptiesAllOrNothing :
    let busy := slot7 .closing (some .expired)
    holder0.Receives 0 (Command.purgeLanes 0x8004).frame ∧ (holder0.master 0).session ≠ none ∧ holder0.claim = some 0
      ∧ ((0x8004 : LaneSet).getLsbD (2 : LaneId) = true ∧ (0x8004 : LaneSet).getLsbD (15 : LaneId) = true
        ∧ (busy.master 0).slot 7 = some { reqA with state := .closing, ending := some .expired }
        ∧ reqA.lanes.getLsbD (2 : LaneId) = true)
      ∧ ∀ n i, (holder0.master n).slot i = none :=
  ⟨⟨rfl, [], rfl, List.nil_prefix, by decide⟩, by decide⟩

theorem witness_SetTickSourceRestartsTheDivider :
    holder0.Receives 0 (Command.setTickSource 1 0).frame ∧ (holder0.master 0).session ≠ none ∧ holder0.claim = some 0
      ∧ (0 : Byte).toNat ≤ 1 ∧ (1 : Byte).toNat ≤ 1 ∧ 1 < (2 : Byte).toNat
      ∧ ((0 : Half) ≠ 1 ∧ exec (.setTickSource 0 1 0) holder0 = .next (after (.setTickSource 0 1 0) holder0)) :=
  ⟨⟨rfl, [], rfl, List.nil_prefix, by decide⟩, by decide, by decide, by decide, by decide, by decide, by decide, rfl⟩

theorem witness_ClearCountersClearsWhatIsNamed :
    holder0.Receives 0 (Command.clearCounters 0x8001 1).frame ∧ (holder0.master 0).session ≠ none ∧ holder0.claim = some 0
      ∧ (0 : Byte).toNat ≤ 1 ∧ (1 : Byte).toNat ≤ 1 ∧ 1 < (2 : Byte).toNat
      ∧ (0x8001 : LaneSet).getLsbD (15 : LaneId) = true ∧ (0x8001 : LaneSet).getLsbD (14 : LaneId) = false :=
  ⟨⟨rfl, [], rfl, List.nil_prefix, by decide⟩, by decide⟩

theorem witness_BadAndUnknownFramesOnlyAnswer :
    (wellSizedFrame [0x11, 0xEE] = true ∧ byteSum [0x11, 0xEE] ≠ 0 ∧ knownCode 0xFF = false)
      ∧ detached0.Receives 0 [0x11, 0xEE] ∧ attached0.Receives 0 [0xFF, 0 - 0xFF] :=
  ⟨by decide, receives_selected 0 _ _ rfl (by decide), receives_selected 0 _ _ rfl (by decide)⟩

theorem witness_SelectionsBeginAndEnd :
    let s := State.reset.onMaster 0 fun x => { x with frame := .receiving [0x11] }
    State.reset.resetHold = false ∧ (State.reset.master 0).frame = .deselected ∧ (s.master 0).frame = .receiving (0x11 :: [])
      ∧ (detached0.master 0).frame = .receiving [] ∧ (detached0.master 0).frame ≠ .deselected := by decide

/-- Lane L0 at the ends of the frame's range: idle after a low QSYN, and 21 bits of the frame assembled. -/
theorem witness_SampleFramesAreJudged :
    let on := State.reset.setLane 0 (laneOf 4 [])
    let s : State := { on with qsynLevel := .low }
    let t : State := { on with assembly := .assembling (List.replicate 21 false) }
    let crowded : State := { s with queue := List.replicate 16 ⟨0, 0, false, 0⟩ }
    let almost : State := { s with queue := List.replicate 15 ⟨0, 0, false, 0⟩ }
    (s.resetHold = false ∧ (0 : LaneId).val = (1 : BitVec 22).toNat / 262144 ∧ (15 : LaneId).val = (0x3FFFFF : BitVec 22).toNat / 262144)
      ∧ (s.assembly = .idle ∧ s.qsynLevel = .low)
      ∧ (t.assembly = .assembling (List.replicate 21 false) ∧ List.replicate 21 false <+: bitsOfFrame 1
        ∧ (List.replicate 21 false).length < 22 ∧ ¬ (t.qsynLevel = .low ∧ Level.low = .high))
      ∧ (List.range 22).countP (0 : BitVec 22).getLsbD % 2 = 0 ∧ (List.range 22).countP (1 : BitVec 22).getLsbD % 2 = 1
      ∧ (State.reset.lane 0).enabled = false ∧ (crowded.lane 0).enabled = true ∧ 16 ≤ crowded.queue.length
      ∧ almost.queue.length < 16 := by decide

theorem witness_ClockEdgesAssembleFrames :
    let bits := List.replicate 21 false
    let s : State := { State.reset with qsynLevel := .low }
    let t : State := { s with assembly := .assembling bits }
    s.resetHold = false ∧ s.qsynLevel = .low ∧ s.assembly = .idle ∧ t.assembly = .assembling bits
      ∧ State.reset.qsynLevel = .high ∧ (List.replicate 20 false).length < 21 ∧ bitsOfFrame 1 = bits ++ [true] := by decide

/-- Lanes of capacity 4 with an open gap to 1,000: full and protected, and with two places free. -/
theorem witness_StoreIntoAnOpenGap :
    let recs := [rec0 900 1, rec0 910 1, rec0 920 1, rec0 930 1]
    let tight := (attached 0 { State.reset with now := 1000, queue := [⟨2, 5, false, 1000⟩] }).setLane 2
      { laneOf 4 recs with openGap := some ⟨990, 1000, 2⟩ }
    let later : State := { tight with queue := [⟨2, 5, false, 1001⟩] }
    let roomy := later.setLane 2 { laneOf 4 [rec0 900 1, rec0 910 1] with openGap := some ⟨990, 1000, 2⟩ }
    (tight.resetHold = false ∧ tight.queue = ⟨2, 5, false, 1000⟩ :: [] ∧ (tight.lane 2).capacity ≠ 0
        ∧ (tight.lane 2).openGap = some ⟨990, 1000, 2⟩)
      ∧ (later.queue = ⟨2, 5, false, 1001⟩ :: [] ∧ (1001 : Tag) ≠ 1000
        ∧ (4 - recs.length) + unprotectedCount later.now (later.protectAge 2) recs < 2)
      ∧ 2 ≤ (4 - (roomy.lane 2).records.length) + unprotectedCount roomy.now (roomy.protectAge 2) (roomy.lane 2).records := by
  decide

/-- The newest record at 1,000, then at 999 with a difference equal to the deadband and an age one short of
the keepalive. -/
theorem witness_StoreRestatesOrSuppresses :
    let s : State := { State.reset.setLane 2 { laneOf 4 [rec0 1000 1] with deadband := 4 } with now := 1005, queue := [⟨2, 5, false, 1000⟩] }
    let t : State := { State.reset.setLane 2 { laneOf 4 [rec0 999 1] with deadband := 4, keepalive := 7 } with
      now := 1005, queue := [⟨2, 5, false, 1000⟩] }
    (s.resetHold = false ∧ s.queue = ⟨2, 5, false, 1000⟩ :: [] ∧ (s.lane 2).capacity ≠ 0 ∧ (s.lane 2).openGap = none
        ∧ (s.lane 2).records = [] ++ [.sample 1000 1 false false true])
      ∧ (t.lane 2).records = [] ++ [.sample 999 1 false false true] ∧ (999 : Tag) ≠ 1000
      ∧ ((5 : Half).toInt - (1 : Half).toInt).natAbs ≤ (t.lane 2).deadband.toNat
      ∧ (t.now - 999).toNat < (t.lane 2).keepalive.toNat ∧ (s.lane 2).keepalive = 0 := by decide

/-- Capacity 0; an empty lane; a full lane whose records are all protected. -/
theorem witness_StoreAppendsOrOpensAGap :
    let recs := [rec0 900 1, rec0 910 1, rec0 920 1, rec0 930 1]
    let s : State := { State.reset with queue := [⟨2, 5, false, 1000⟩] }
    let full := (attached 0 { s with now := 1000 }).setLane 2 (laneOf 4 recs)
    (s.resetHold = false ∧ s.queue = ⟨2, 5, false, 1000⟩ :: [] ∧ (s.lane 2).capacity = 0)
      ∧ ((laneOf 4 []).openGap = none ∧ (laneOf 4 []).records.getLast? = none ∧ 1 ≤ 4 - (laneOf 4 []).records.length)
      ∧ ((full.lane 2).capacity ≠ 0 ∧ (full.lane 2).openGap = none
        ∧ (full.lane 2).records.getLast? = some (.sample 930 1 false false true)
        ∧ (930 : Tag) ≠ 1000 ∧ (full.lane 2).deadband.toNat < ((5 : Half).toInt - (1 : Half).toInt).natAbs
        ∧ (4 - recs.length) + unprotectedCount full.now (full.protectAge 2) recs = 0) := by decide

theorem witness_ProtectionKeepsTheAnchor :
    let rs := [rec0 600 1, rec0 699 1, rec0 700 1]
    rs = [rec0 600 1] ++ rec0 699 1 :: [rec0 700 1] ∧ 300 < ((1000 : Tag) - (rec0 699 1).key).toNat
      ∧ (∀ r ∈ [rec0 700 1], ((1000 : Tag) - r.key).toNat ≤ 300) := by decide

theorem witness_ReadLaneReportsTheLane :
    detached0.Receives 0 (Command.readLane 15).frame ∧ 16 ≤ (16 : Byte).toNat ∧ (15 : Byte).toNat = (15 : LaneId).val :=
  ⟨receives_selected 0 _ _ rfl (by decide), by decide⟩

/-- M2 holds a READY slot of a class, alone; the class's pointer is at M3. -/
def ready2 (c : ReqClass) : State :=
  holding 2 5 { reqA with state := .ready, cls := c } State.reset

theorem witness_ArbitrationByClassRotationAndOrder :
    (State.reset.resetHold = false ∧ State.reset.serving = none)
      ∧ (∀ m c i, ¬ (State.reset.master m).Eligible c i)
      ∧ ((ready2 .urgent).serving = none ∧ ((ready2 .urgent).master 2).Eligible .urgent 5
        ∧ ((ready2 .urgent).master 2).order = [] ++ 5 :: []
        ∧ ∀ n : Master, (n - (3 + 1)).val < ((2 : Master) - (3 + 1)).val → ((ready2 .urgent).master n).order = [])
      ∧ (((ready2 .normal).master 2).Eligible .normal 5 ∧ ∀ n j, ¬ ((ready2 .normal).master n).Eligible .urgent j) := by
  refine ⟨by decide, ?_, ⟨rfl, ⟨by decide, by decide, _, rfl, rfl, .inl rfl⟩, rfl, by decide⟩,
    ⟨by decide, by decide, _, rfl, rfl, .inl rfl⟩, ?_⟩
  · rintro m c i ⟨h, -⟩
    exact absurd h ((by decide : ∀ m i, i ∉ (State.reset.master m).order) m i)
  · rintro n j ⟨h, -, r, hr, hc, -⟩
    have key : ∀ n j, j ∈ ((ready2 .normal).master n).order →
        (((ready2 .normal).master n).slot j).map Request.cls = some .normal := by decide
    have := key n j h
    rw [hr] at this
    simp [hc] at this

theorem witness_SelectionStartsTheFirstItem :
    let opened := { reqA with opened := true, resume := some ⟨2, .lead, none, false⟩ }
    let s := slot7 .ready none
    (((slot7 .closing (some .expired)).master 0).slot 7 = some { reqA with state := .closing, ending := some .expired })
      ∧ ((s.master 0).slot 7 = some { reqA with state := .ready } ∧ reqA.ending = none ∧ reqA.opened = false)
      ∧ s.search 7 { opened with resume := some ⟨2, .finish, none, true⟩ } = none
      ∧ s.search 7 opened = some ⟨.empty 7 2, some ⟨2, .finish, none, true⟩⟩
      ∧ { opened with itemsWritten := 2 }.itemsWritten = opened.budget ∧ opened.itemsWritten ≠ opened.budget := by decide

/-- The engine serving M0 slot 7 with an item in flight. -/
def serving7 (r : Request) (f : Flight) (n : Nat) : State :=
  { (holding 0 7 { r with state := .active } (attached 0 State.reset)).onMaster 0 (fun x => { x with items := List.replicate n (.empty 0 0) }) with
    serving := some ⟨0, 7, f⟩ }

theorem serving7_items (r : Request) (f : Flight) (n : Nat) :
    ((serving7 r f n).master 0).items = List.replicate n (.empty 0 0) := rfl

theorem witness_CloseCompletionFreesTheSlot :
    State.reset.serving = none ∧ State.reset.resetHold = false
      ∧ (serving7 { reqA with ending := some .complete } ⟨.close 7 7 .complete 0, none⟩ 127).serving
          = some ⟨0, 7, ⟨.close 7 7 .complete 0, none⟩⟩ := by decide

/-- An EMPTY item in flight: with an ending, with 126 and 127 items in the buffer, with and without an URGENT
slot, with the budget reached and not. -/
theorem witness_ItemBoundaryDecisions :
    let f : Flight := ⟨.empty 7 2, some ⟨2, .finish, none, true⟩⟩
    let r := { reqA with opened := true, state := .active }
    let s := serving7 r f 126
    let u := holding 1 0 { reqA with cls := .urgent, state := .ready } s
    (s.resetHold = false ∧ s.serving = some ⟨0, 7, f⟩ ∧ (s.master 0).slot 7 = some r ∧ f.item.isClose = false)
      ∧ ((s.master 0).items.length < 127 ∧ 127 ≤ ((serving7 r f 127).master 0).items.length)
      ∧ ({ r with ending := some Ending.expired }.ending = some .expired ∧ r.ending = none ∧ r.cls = .normal)
      ∧ (u.master 1).Eligible .urgent 0
      ∧ (∀ n j, j ∈ (s.master n).order → ((s.master n).slot j).map Request.cls ≠ some .urgent)
      ∧ s.search 7 { r with itemsWritten := 1, resume := f.after } = none
      ∧ (s.search 7 { r with lanes := 0x000C, itemsWritten := 1, resume := f.after }).isSome = true
      ∧ { r with itemsWritten := 2 }.itemsWritten = r.budget ∧ { r with itemsWritten := 1 }.itemsWritten ≠ r.budget :=
  ⟨by decide, by simp only [serving7_items, List.length_replicate]; decide, by decide,
    ⟨by decide, by decide, _, rfl, rfl, .inl rfl⟩, by decide, by decide, by decide, by decide, by decide⟩

/-- A window from 900 to 1,050, and a lane with a record on each side of each of its ends. -/
def reqW : Request := Request.fresh .command .normal 1000 100 50 0x8006 false 2 7

/-- The loss from 899 to 905 straddles the start. -/
def laneW : Lane :=
  { laneOf 8 [rec0 800 1, .gap 899 905 3 true, rec0 900 2, rec0 1050 3, rec0 1051 4] with openGap := some ⟨1050, 1060, 2⟩ }

theorem witness_SampleItemsReportRecordsInTheWindow :
    seq1.search 0 { req1 with opened := true, resume := some ⟨2, .records, none, true⟩ }
      = some ⟨.sample 0 2 (-140) 104 false false, some ⟨2, .records, some 29850, true⟩⟩ := by decide

theorem witness_search_lead :
    (laneW.records = [rec0 800 1] ++ .gap 899 905 3 true :: [rec0 900 2, rec0 1050 3, rec0 1051 4]
        ∧ reqW.BeforeWindow 899 ∧ ¬ reqW.BeforeWindow 905 ∧ ∀ d ∈ [rec0 900 2, rec0 1050 3, rec0 1051 4], ¬ reqW.BeforeWindow d.key)
      ∧ ((laneOf 4 [rec0 899 1]).records = [] ++ rec0 899 1 :: [] ∧ reqW.BeforeWindow (rec0 899 1).key)
      ∧ reqW.leadWanted = false ∧ { reqW with leadWanted := true }.leadWanted = true
      ∧ ∀ d ∈ (laneOf 4 [rec0 900 1]).records, ¬ reqW.BeforeWindow d.key := by
  simp only [← Request.beforeWindow_iff]
  decide

theorem witness_search_records :
    (laneW.records = [rec0 800 1, .gap 899 905 3 true] ++ rec0 900 2 :: [rec0 1050 3, rec0 1051 4] ∧ reqW.InWindow (rec0 900 2).key
        ∧ (∀ k, none = some k → TagBefore 2000 k 900) ∧ ∀ d ∈ [rec0 800 1, .gap 899 905 3 true], ¬ reqW.InWindow d.key)
      ∧ (laneW.records = [rec0 800 1, .gap 899 905 3 true, rec0 900 2] ++ rec0 1050 3 :: [rec0 1051 4]
        ∧ reqW.InWindow (rec0 1050 3).key ∧ (∀ k, some (900 : Tag) = some k → TagBefore 2000 k 1050)
        ∧ ∀ d ∈ [rec0 800 1, .gap 899 905 3 true, rec0 900 2], reqW.InWindow d.key →
            ∃ k, some (900 : Tag) = some k ∧ ¬ TagBefore 2000 k d.key)
      ∧ ∀ d ∈ laneW.records, reqW.InWindow d.key → ∃ k, some (1050 : Tag) = some k ∧ ¬ TagBefore 2000 k d.key := by
  simp only [← Request.inWindow_iff, Option.some.injEq, forall_eq', exists_eq_left', reduceCtorEq, false_implies, implies_true,
    ← tagBefore_iff]
  decide

theorem witness_search_finish :
    (laneW.openGap = some ⟨1050, 1060, 2⟩ ∧ reqW.InWindow 1050 ∧ (∀ k, some (1049 : Tag) = some k → TagBefore 2000 k 1050))
      ∧ (reqW.BeforeWindow 899 ∧ ∀ k, none = some k → TagBefore 2000 k 899)
      ∧ (∃ k, some (1050 : Tag) = some k ∧ ¬ TagBefore 2000 k 1050)
      ∧ ¬ (reqW.InWindow 1051 ∨ reqW.BeforeWindow 1051) ∧ (laneOf 4 []).openGap = none := by
  simp only [← Request.inWindow_iff, ← Request.beforeWindow_iff, Option.some.injEq, forall_eq', exists_eq_left', reduceCtorEq, false_implies, implies_true,
    ← tagBefore_iff]
  decide

/-- From L1 with nothing left the search goes to L2, and from L15 to none. -/
theorem witness_search_lanes :
    let r := { reqW with opened := true, resume := some ⟨1, .finish, none, true⟩ }
    searchLane State.reset.now 7 r (State.reset.lane 1) ⟨1, .finish, none, true⟩ = none
      ∧ (r.lanes.getLsbD (2 : LaneId) = true ∧ (1 : LaneId) < 2
        ∧ ∀ k : LaneId, r.lanes.getLsbD k = true → 1 < k → 2 ≤ k)
      ∧ searchLane State.reset.now 7 r (State.reset.lane 1) ⟨1, .finish, none, false⟩
          = some ⟨.empty 7 1, some ⟨1, .finish, none, true⟩⟩
      ∧ searchLane State.reset.now 7 r (State.reset.lane 15) ⟨15, .finish, none, true⟩ = none
      ∧ ∀ l : LaneId, r.lanes.getLsbD l = true → l ≤ 15 := by decide

theorem witness_ResetGivesPowerOnValuesAndHolds :
    ({ State.reset with resetHold := true } : State).resetHold = true ∧ Instr.tickArrival ≠ .powerOnReset
      ∧ Instr.tickArrival ≠ .rstRelease := by decide

/-- A part at work: M0 attached and served, its claim held, a lane full. -/
def working : State :=
  let r := { reqA with opened := true, state := .active, itemsWritten := 1 }
  let s := serving7 r ⟨.empty 7 2, some ⟨2, .finish, none, true⟩⟩ 3
  { s.setLane 2 (laneOf 4 [.gap 900 905 1 true, rec0 910 1, rec0 920 1, rec0 930 1]) with
    claim := some 0, pending := [.itemCompletion] }

theorem witness_EveryStepKeepsTheLaneLaw : working.LaneLaw ∧ step working = .next (after .itemCompletion { working with pending := [] }) :=
  ⟨by decide, rfl⟩

theorem witness_EveryStepKeepsTheSessionLaw : working.SessionLaw := by
  refine ⟨fun m => ?_, by decide, by decide⟩
  have h : ∀ m : Master, m ≠ 0 → working.master m = .reset := by decide
  by_cases hm : m = 0
  · subst hm
    exact (by decide : 1 ≤ 40 ∧ 40 ≤ 100 ∧ 100 ≤ 1048575
      ∧ (∀ i : SlotId, ((working.master 0).slot i).all fun r => !lanesRefused r.lanes 0x0024) ∧ True)
      |>.imp id fun h => h.imp id fun h => h.imp id fun h => ⟨h.1, rfl⟩
  · rw [h m hm]
    exact ⟨by decide, rfl, rfl, rfl⟩

theorem witness_EveryStepKeepsTheEngineLaw : working.EngineLaw := by
  have only : ∀ m i, (m ≠ 0 ∨ i ≠ 7) → (working.master m).slot i = none := by decide
  have it : (working.master 0).slot 7 = some { reqA with opened := true, state := .active, itemsWritten := 1 } := by decide
  have at7 : ∀ m i r, (working.master m).slot i = some r →
      m = 0 ∧ i = 7 ∧ r = { reqA with opened := true, state := .active, itemsWritten := 1 } := by
    intro m i r hr
    by_cases h : m ≠ 0 ∨ i ≠ 7
    · rw [only m i h] at hr; cases hr
    · obtain ⟨h1, h2⟩ : m = 0 ∧ i = 7 := by simpa [not_or] using h
      subst h1 h2
      exact ⟨rfl, rfl, Option.some.inj (hr.symm.trans it)⟩
  refine ⟨fun m => ⟨?_, ?_, ?_, ?_, ?_⟩, ?_, ?_, ?_⟩
  · revert m; decide
  · revert m; decide
  · revert m; decide
  · intro i r hr; obtain ⟨-, -, rfl⟩ := at7 m i r hr; decide
  · intro t ht
    have : (working.master m).template = none := (by decide : ∀ m, (working.master m).template = none) m
    rw [this] at ht; cases ht
  · intro m i r hr _
    obtain ⟨rfl, rfl, -⟩ := at7 m i r hr
    exact ⟨_, rfl, rfl, rfl⟩
  · intro v hv
    obtain rfl : (⟨0, 7, ⟨.empty 7 2, some ⟨2, .finish, none, true⟩⟩⟩ : Serving) = v := Option.some.inj hv
    refine ⟨by decide, _, it, rfl, rfl, ?_, ?_, ?_⟩
    · intro h; cases h
    · intro h; cases h
    · intro _; decide
  · intro h; cases h

theorem witness_EveryStepKeepsThePortLaw : working.PortLaw := by decide

/-- A step for each clause: the reset, a tick of each source as a row and as a period, and an edge under DIVIDED. -/
theorem witness_NowMovesOnlyByTicksAndReset :
    (step { State.reset with pending := [.powerOnReset] } = .next { State.reset with resetHold := true })
      ∧ (let s : State := { State.reset with tickLevel := .low, pending := [.tickArrival] }
        s.TickDue ∧ step s = .next (after .tickArrival { s with pending := [] }))
      ∧ (let s : State := { State.reset with tickSource := .divided }
        s.TickDue ∧ step s = .next s.idle)
      ∧ (let s : State := { State.reset with tickSource := .divided, tickLevel := .low, pending := [.tickArrival] }
        ¬ s.TickDue ∧ s.pending.head? ≠ some .powerOnReset ∧ step s = .next (after .tickArrival { s with pending := [] })) :=
  ⟨rfl, ⟨by unfold State.TickDue; decide, rfl⟩, ⟨by unfold State.TickDue; decide, rfl⟩,
    by unfold State.TickDue; decide, by decide, rfl⟩

end Sys2Proof.Tests
end

section
/-! PROOFS. The store operation of the Lane Histories (R26 to R37): which step settles a frame, what that step
leaves of the lane, and what the store completion then leaves of the part. -/

namespace Sys2Proof.Machine

/-! ### Which step settles a frame (R26) -/

/-- The places a store can obtain, as R29 counts them. -/
theorem Lane.obtainable_eq (now : Tag) (p : Option Nat) (x : Lane) :
    x.obtainable now p = (x.capacity - x.records.length) + unprotectedCount now p x.records := rfl

theorem withinDeadband_iff (a b d : Half) : withinDeadband a b d = true ↔ (a.toInt - b.toInt).natAbs ≤ d.toNat := by
  simp [withinDeadband]

theorem keepaliveQuiet_iff (now key : Tag) (k : Half) :
    keepaliveQuiet now key k = true ↔ k = 0 ∨ (now - key).toNat < k.toNat := by
  rw [keepaliveQuiet, Bool.or_eq_true, beq_iff_eq, decide_eq_true_eq, age]

/-- A frame restates the newest record exactly when that is a SAMPLE with its tag (R31). -/
theorem Lane.restatedBy_iff (f : Frame) (x : Lane) :
    x.restatedBy f = true ↔ ∃ v rs al ok, x.records.getLast? = some (.sample f.tag v rs al ok) := by
  unfold Lane.restatedBy
  split
  next k v rs al ok h => simp [h]
  next h => simp [h]
  next h => simp [h]

/-- A frame is suppressed exactly when it is unforced, within the deadband of the newest SAMPLE, and the
keepalive is off or not due (R32). -/
theorem Lane.suppresses_iff (now : Tag) (f : Frame) (x : Lane) :
    x.suppresses now f = true ↔ ∃ k v rs al ok, x.records.getLast? = some (.sample k v rs al ok)
      ∧ f.force = false ∧ (f.value.toInt - v.toInt).natAbs ≤ x.deadband.toNat
      ∧ (x.keepalive = 0 ∨ (now - k).toNat < x.keepalive.toNat) := by
  unfold Lane.suppresses
  split
  next k v rs al ok h => simp [h, withinDeadband_iff, keepaliveQuiet_iff, and_assoc]
  next h => simp [h]
  next h => simp [h]

section
variable {now : Tag} {p : Option Nat} {f : Frame} {x : Lane}

theorem Lane.storeStep_of_no_capacity (hc : x.capacity = 0) : x.storeStep now p f = .discard := by
  simp [Lane.storeStep, hc]

/-- The steps of a lane with an open gap, in their order (R28 to R30). -/
theorem Lane.storeStep_of_openGap {g : OpenGap} (hc : x.capacity ≠ 0) (hg : x.openGap = some g) :
    x.storeStep now p f
      = if f.tag = g.lastLost then .extendEqual else if 2 ≤ x.obtainable now p then .closeGap else .extend := by
  simp [Lane.storeStep, hc, hg]

/-- The steps of a lane with no open gap, in their order (R31 to R34). -/
theorem Lane.storeStep_of_no_openGap (hc : x.capacity ≠ 0) (hg : x.openGap = none) :
    x.storeStep now p f
      = if x.restatedBy f then .restate else if x.suppresses now f then .suppress
        else if 1 ≤ x.obtainable now p then .append else .openGap := by
  simp [Lane.storeStep, hc, hg]

/-! ### What a step leaves of the lane (R28 to R34, R37) -/

theorem Lane.extendEqual_of_openGap {g : OpenGap} (hg : x.openGap = some g) :
    x.extendEqual = { x with openGap := some { g with lostCount := bump g.lostCount }, lost := bump x.lost } := by
  simp [Lane.extendEqual, hg]

theorem Lane.extendGap_of_openGap {g : OpenGap} (hg : x.openGap = some g) :
    x.extendGap f
      = { x with openGap := some { g with lastLost := f.tag, lostCount := bump g.lostCount }, lost := bump x.lost } := by
  simp [Lane.extendGap, hg]

theorem Lane.closeGap_of_openGap {g : OpenGap} (hg : x.openGap = some g) :
    x.closeGap f
      = { x with
          records := x.records.drop (2 - (x.capacity - x.records.length))
            ++ [.gap g.firstLost g.lastLost g.lostCount (!x.checkArm), .sample f.tag f.value false x.lossMark true]
          openGap := none, lossMark := false, checkArm := false, stored := bump x.stored } := by
  simp [Lane.closeGap, hg, Lane.makeRoom, Lane.freePlaces, Frame.record]

theorem Lane.restate_of_newest {older : List Record} {k : Tag} {v : Half} {rs al ok : Bool}
    (hr : x.records = older ++ [.sample k v rs al ok]) :
    x.restate f
      = { x with
          records := older ++ [.sample k f.value (rs || decide (f.value ≠ v)) al (!x.checkArm)]
          checkArm := false
          restated := if f.value = v then x.restated else bump x.restated } := by
  by_cases h : f.value = v <;> simp [Lane.restate, Lane.restatementChanges, Record.restateWith, hr, h]

theorem Lane.appendSample_eq :
    x.appendSample f
      = { x with
          records := x.records.drop (1 - (x.capacity - x.records.length))
            ++ [.sample f.tag f.value false x.lossMark (!x.checkArm)]
          lossMark := false, checkArm := false, stored := bump x.stored } := rfl

end

/-! ### What a store completion leaves of the part (R26, R34, R55) -/

/-- PRESSURE is raised of an attached master that watches the lane, and of no other (R34, R176). -/
theorem MasterState.raisePressure_eq (l : LaneId) :
    MasterState.raisePressure l
      = fun y => if y.session.any (fun w => w.watchSet.getLsbD l) then { y with pressure := true } else y := by
  funext y
  unfold MasterState.raisePressure
  split
  next w h => simp [h, inSet]
  next h => simp [h]

section
variable {s : State} {f : Frame} {rest : List Frame}

/-- The head frame is stored and leaves the queue; then readiness is tested and the engine arbitrates. -/
theorem exec_storeCompletion_of_head (hold : s.resetHold = false) (hq : s.queue = f :: rest) :
    exec .storeCompletion s = .next ({ s.storeFrame f with queue := rest } : State).testReadiness.arbitrate := by
  have hexec : exec .storeCompletion s = .next (s.unlessHeld State.completeStore) := rfl
  simp [hexec, State.unlessHeld, hold, State.completeStore, hq]

/-- A frame with no place to go is counted as discarded, and its lane is left as it stands (R27). -/
theorem State.storeFrame_of_discard (hst : (s.lane f.lane).storeStep s.now (s.protectAge f.lane) f = .discard) :
    s.storeFrame f = { s with disabledDiscards := bump s.disabledDiscards } := by
  simp [State.storeFrame, hst, Lane.applyStore, State.onLane]

/-- A step other than discarding and opening a gap changes the lane alone. -/
theorem State.storeFrame_of_laneStep {st : StoreStep}
    (hst : (s.lane f.lane).storeStep s.now (s.protectAge f.lane) f = st) (hd : st ≠ .discard) (ho : st ≠ .openGap) :
    s.storeFrame f = s.setLane f.lane ((s.lane f.lane).applyStore f st) := by
  unfold State.storeFrame
  cases st with
  | discard => exact absurd rfl hd
  | openGap => exact absurd rfl ho
  | extendEqual | closeGap | extend | restate | suppress | append => simp only [hst, State.onLane]

/-- Opening a gap changes the lane and raises PRESSURE of its watchers (R34). -/
theorem State.storeFrame_of_openGap (hst : (s.lane f.lane).storeStep s.now (s.protectAge f.lane) f = .openGap) :
    s.storeFrame f
      = (s.setLane f.lane ((s.lane f.lane).startGap f)).onMasters (MasterState.raisePressure f.lane) := by
  simp only [State.storeFrame, hst, State.onLane, Lane.applyStore]

/-- The store completion of a frame that a step settles within its lane. -/
theorem exec_storeCompletion_of_laneStep {st : StoreStep} (hold : s.resetHold = false) (hq : s.queue = f :: rest)
    (hst : (s.lane f.lane).storeStep s.now (s.protectAge f.lane) f = st) (hd : st ≠ .discard) (ho : st ≠ .openGap) :
    exec .storeCompletion s = .next (s.afterStore f.lane ((s.lane f.lane).applyStore f st) rest) := by
  rw [exec_storeCompletion_of_head hold hq, State.storeFrame_of_laneStep hst hd ho, State.afterStore]

end

/-! ### The obligations -/

/-- Settles O43: the tag and the places obtainable choose between the three steps of a lane with an open gap. -/
theorem storeIntoAnOpenGap : Obligations.StoreIntoAnOpenGap := by
  unfold Obligations.StoreIntoAnOpenGap
  rintro s f rest x g places hold hq rfl hc hg rfl
  have step := Lane.storeStep_of_openGap (now := s.now) (p := s.protectAge f.lane) (f := f) hc hg
  simp only [Lane.obtainable_eq] at step
  refine ⟨fun htag => ?_, fun htag hplaces => ?_, fun htag hplaces => ?_⟩
  · have hst := step.trans (if_pos htag)
    rw [exec_storeCompletion_of_laneStep hold hq hst (by decide) (by decide), Lane.applyStore,
      Lane.extendEqual_of_openGap hg]
  · have hst := step.trans ((if_neg htag).trans (if_neg (not_le.mpr hplaces)))
    rw [exec_storeCompletion_of_laneStep hold hq hst (by decide) (by decide), Lane.applyStore,
      Lane.extendGap_of_openGap hg]
  · have hst := step.trans ((if_neg htag).trans (if_pos hplaces))
    rw [exec_storeCompletion_of_laneStep hold hq hst (by decide) (by decide), Lane.applyStore,
      Lane.closeGap_of_openGap hg]

/-- Settles O44: the newest record is a SAMPLE, so its tag decides on restating, and its value and age on suppressing. -/
theorem storeRestatesOrSuppresses : Obligations.StoreRestatesOrSuppresses := by
  unfold Obligations.StoreRestatesOrSuppresses
  rintro s f rest x older k v rs al ok hold hq rfl hc hg hr
  have newest : (s.lane f.lane).records.getLast? = some (.sample k v rs al ok) := by simp [hr]
  have step := Lane.storeStep_of_no_openGap (now := s.now) (p := s.protectAge f.lane) (f := f) hc hg
  refine ⟨fun htag => ?_, fun htag hforce hdead hkeep => ?_⟩
  · have hre : (s.lane f.lane).restatedBy f = true :=
      (Lane.restatedBy_iff ..).mpr ⟨v, rs, al, ok, htag ▸ newest⟩
    have hst := step.trans (if_pos hre)
    rw [exec_storeCompletion_of_laneStep hold hq hst (by decide) (by decide), Lane.applyStore,
      Lane.restate_of_newest hr]
  · have hre : ¬ (s.lane f.lane).restatedBy f = true := by
      simp [Lane.restatedBy_iff, newest, htag]
    have hsup : (s.lane f.lane).suppresses s.now f = true :=
      (Lane.suppresses_iff ..).mpr ⟨k, v, rs, al, ok, newest, hforce, hdead, hkeep⟩
    have hst := step.trans ((if_neg hre).trans (if_pos hsup))
    rw [exec_storeCompletion_of_laneStep hold hq hst (by decide) (by decide), Lane.applyStore]

/-- Settles O45: the hypothesis on the newest record rules out restating and suppressing, and the places
obtainable choose between appending and opening the gap. -/
theorem storeAppendsOrOpensAGap : Obligations.StoreAppendsOrOpensAGap := by
  unfold Obligations.StoreAppendsOrOpensAGap
  rintro s f rest x places hold hq rfl rfl
  refine ⟨fun hc => ?_, fun hc hg hlast => ?_⟩
  · rw [exec_storeCompletion_of_head hold hq, State.storeFrame_of_discard (Lane.storeStep_of_no_capacity hc)]
  have hre : ¬ (s.lane f.lane).restatedBy f = true := by
    rw [Lane.restatedBy_iff]
    rintro ⟨v, rs, al, ok, newest⟩
    exact (hlast _ _ _ _ _ newest).1 rfl
  have hsup : ¬ (s.lane f.lane).suppresses s.now f = true := by
    rw [Lane.suppresses_iff]
    rintro ⟨k, v, rs, al, ok, newest, hforce, hdead, hkeep⟩
    obtain ⟨-, hforced | hfar | ⟨hon, hdue⟩⟩ := hlast _ _ _ _ _ newest
    · simp [hforce] at hforced
    · omega
    · rcases hkeep with hoff | hyoung
      · exact hon hoff
      · omega
  have step := (Lane.storeStep_of_no_openGap (now := s.now) (p := s.protectAge f.lane) (f := f) hc hg).trans
    ((if_neg hre).trans (if_neg hsup))
  simp only [Lane.obtainable_eq] at step
  refine ⟨fun hplaces => ?_, fun hplaces => ?_⟩
  · have hst := step.trans (if_pos hplaces)
    rw [exec_storeCompletion_of_laneStep hold hq hst (by decide) (by decide), Lane.applyStore, Lane.appendSample_eq]
  · have hst := step.trans (if_neg (by omega))
    rw [exec_storeCompletion_of_head hold hq, State.storeFrame_of_openGap hst, MasterState.raisePressure_eq,
      State.onMasters, changeAll_eq_map]
    rfl

end Sys2Proof.Machine
end

section
/-! PROOFS. Arbitration of the extraction engine (R96 to R98): the slot a master puts forward, the master the
rotation reaches first, and what the IDLE engine then does. -/

namespace Sys2Proof.Machine

/-! ### The slot a master puts forward (R96, R98) -/

/-- The model's eligibility test, of a slot in the admission order, is R96's. -/
theorem MasterState.eligible_iff (x : MasterState) (c : ReqClass) (i : SlotId) :
    x.Eligible c i ↔ i ∈ x.order ∧ x.eligible c i = true := by
  simp [MasterState.Eligible, MasterState.eligible, MasterState.hasRoom, Config.bufferDepth,
    Option.any_eq_true, Request.selectable]

/-- A master puts no slot forward in a class exactly when none of its slots is eligible there. -/
theorem MasterState.candidate_eq_none_iff {x : MasterState} {c : ReqClass} :
    x.candidate c = none ↔ ∀ i, ¬ x.Eligible c i := by
  simp [MasterState.candidate, MasterState.eligible_iff]

/-- An eligible slot with none eligible before it in the admission order is the one put forward. -/
theorem MasterState.candidate_eq_some {x : MasterState} {c : ReqClass} {i : SlotId} {before after : List SlotId}
    (hi : x.Eligible c i) (horder : x.order = before ++ i :: after) (hbefore : ∀ j ∈ before, ¬ x.Eligible c j) :
    x.candidate c = some i := by
  refine List.find?_eq_some_iff_append.mpr ⟨((x.eligible_iff c i).mp hi).2, before, after, horder, fun j hj => ?_⟩
  have hmem : j ∈ x.order := horder ▸ List.mem_append_left _ hj
  have hnot : ¬ x.eligible c j = true := fun h => hbefore j hj ((x.eligible_iff c j).mpr ⟨hmem, h⟩)
  simpa using hnot

/-! ### The master the rotation reaches first (R98) -/

theorem mem_rotation : ∀ p m : Master, m ∈ rotation p := by decide

/-- The rotation looks at the masters in the order of their distance from the one after the pointer. -/
theorem rotation_pairwise : ∀ p : Master,
    (rotation p).Pairwise fun n m => (n - (p + 1)).val < (m - (p + 1)).val := by decide

/-- Every master has its place in the rotation, behind nearer masters alone. -/
theorem rotation_split (p m : Master) : ∃ before after, rotation p = before ++ m :: after
    ∧ ∀ n ∈ before, (n - (p + 1)).val < (m - (p + 1)).val := by
  obtain ⟨before, after, hsplit⟩ := List.append_of_mem (mem_rotation p m)
  have hsorted := rotation_pairwise p
  rw [hsplit, List.pairwise_append] at hsorted
  obtain ⟨-, -, hcross⟩ := hsorted
  exact ⟨before, after, hsplit, fun n hn => hcross n hn m List.mem_cons_self⟩

section
variable {s : State} {c : ReqClass} {p m : Master} {i : SlotId}

/-- Nothing is granted in a class exactly when no slot of any master is eligible in it. -/
theorem State.pick_eq_none_iff : s.pick c p = none ↔ ∀ n j, ¬ (s.master n).Eligible c j := by
  simp only [State.pick, List.findSome?_eq_none_iff, Option.map_eq_none_iff, MasterState.candidate_eq_none_iff]
  exact ⟨fun h n => h n (mem_rotation p n), fun h n _ => h n⟩

/-- The slot put forward by a master is granted when no master nearer to the pointer has an eligible slot. -/
theorem State.pick_eq_some (hi : (s.master m).candidate c = some i)
    (hnearer : ∀ n : Master, (n - (p + 1)).val < (m - (p + 1)).val → ∀ j, ¬ (s.master n).Eligible c j) :
    s.pick c p = some (m, i) := by
  obtain ⟨before, after, hsplit, hnear⟩ := rotation_split p m
  refine List.findSome?_eq_some_iff.mpr ⟨before, m, after, hsplit, by simp [hi], fun n hn => ?_⟩
  simp [MasterState.candidate_eq_none_iff.mpr (hnearer n (hnear n hn))]

/-! ### What the IDLE engine does (R97, R98) -/

theorem State.arbitrate_of_urgent (hold : s.resetHold = false) (idle : s.serving = none)
    (hu : s.pick .urgent s.urgentPtr = some (m, i)) :
    s.arbitrate = ({ s with urgentPtr := m } : State).select m i := by
  simp [State.arbitrate, hold, idle, hu]

theorem State.arbitrate_of_normal (hold : s.resetHold = false) (idle : s.serving = none)
    (hu : s.pick .urgent s.urgentPtr = none) (hn : s.pick .normal s.normalPtr = some (m, i)) :
    s.arbitrate = ({ s with normalPtr := m } : State).select m i := by
  simp [State.arbitrate, hold, idle, hu, hn]

theorem State.arbitrate_of_none (hold : s.resetHold = false) (idle : s.serving = none)
    (hu : s.pick .urgent s.urgentPtr = none) (hn : s.pick .normal s.normalPtr = none) : s.arbitrate = s := by
  simp [State.arbitrate, hold, idle, hu, hn]

end

/-! ### The obligation -/

/-- Settles O48: the class is chosen by whether a pick of URGENT finds a slot, the master by the rotation and
the slot by the admission order. -/
theorem arbitrationByClassRotationAndOrder : Obligations.ArbitrationByClassRotationAndOrder := by
  unfold Obligations.ArbitrationByClassRotationAndOrder
  intro s hold idle
  refine ⟨fun hnone => ?_, fun m i before after hi hnearer horder hbefore => ?_,
    fun m i before after hi hurgent hnearer horder hbefore => ?_⟩
  · exact State.arbitrate_of_none hold idle (State.pick_eq_none_iff.mpr fun m => hnone m .urgent)
      (State.pick_eq_none_iff.mpr fun m => hnone m .normal)
  · exact State.arbitrate_of_urgent hold idle
      (State.pick_eq_some (MasterState.candidate_eq_some hi horder hbefore) hnearer)
  · exact State.arbitrate_of_normal hold idle (State.pick_eq_none_iff.mpr hurgent)
      (State.pick_eq_some (MasterState.candidate_eq_some hi horder hbefore) hnearer)

end Sys2Proof.Machine
end

section
/-! PROOFS. The notification lines (R175, R177, R183): which bit place of the flags layout holds which flag, and
when INTn is asserted. -/

namespace Sys2Proof.Machine

/-! ### The flags layout (R175, R183) -/

/-- LEVEL compares the buffer's count with the watermark (R175). -/
theorem MasterState.level_iff (x : MasterState) : x.level = true ↔ x.watermark ≤ x.items.length := by
  rw [MasterState.level, decide_eq_true_eq]

/-- Bit place by bit place, from bit 0 up, the flags layout holds LEVEL, CLOSED, REFUSED, PRESSURE and ENDED (R183). -/
@[simp] theorem MasterState.flags_getElem (x : MasterState) (i : Nat) (hi : i < 5) :
    x.flags[i] = [x.level, x.closed, x.refused, x.pressure, x.ended][i] := by
  rw [MasterState.flags]
  match i with
  | 0 | 1 | 2 | 3 | 4 =>
    simp [BitVec.getElem_append (n := 4), BitVec.getElem_append (n := 3), BitVec.getElem_append (n := 2),
      BitVec.getElem_append (n := 1)]

/-! ### When INTn is asserted (R177) -/

/-- Two words meet exactly when some bit place is set in both. -/
theorem and_ne_zero_iff_exists_getElem {w : Nat} (a b : BitVec w) :
    a &&& b ≠ 0 ↔ ∃ i : Fin w, a[i] = true ∧ b[i] = true := by
  constructor
  · intro hne
    by_contra hnone
    refine hne (BitVec.eq_of_getElem_eq fun i hi => ?_)
    have hbit : ¬ (a[i] = true ∧ b[i] = true) := fun h => hnone ⟨⟨i, hi⟩, h⟩
    simpa using hbit
  · rintro ⟨i, ha, hb⟩ hzero
    have hbit : (a &&& b)[i] = true := by simpa using And.intro ha hb
    simp [hzero] at hbit

/-- A master calls for its line exactly when some place of the flags layout is set both in its flags and in
its mask. -/
theorem MasterState.intAsserted_iff (x : MasterState) :
    x.intAsserted = true ↔ ∃ i : Fin 5, x.flags[i] = true ∧ x.mask[i] = true := by
  rw [MasterState.intAsserted, bne_iff_ne, and_ne_zero_iff_exists_getElem]

/-- RST held low releases the line whatever the master's flags are. -/
theorem State.intAsserted_iff (s : State) (m : Master) :
    s.intAsserted m = true ↔ s.resetHold = false ∧ (s.master m).intAsserted = true := by
  rw [State.intAsserted, Bool.and_eq_true, Bool.not_eq_true']

/-! ### The obligation -/

/-- Settles O31: a line is asserted by one of the five places of the flags layout, and each place holds the flag
R183 puts there. -/
theorem interruptFollowsFlagsAndMask : Obligations.InterruptFollowsFlagsAndMask := by
  unfold Obligations.InterruptFollowsFlagsAndMask
  intro s m
  rw [State.intAsserted_iff, MasterState.intAsserted_iff]
  simp [Fin.exists_fin_succ, MasterState.level_iff]

end Sys2Proof.Machine
end

section
/-! PROOFS. What one step can do, said once: a step is a chain of changes, each of them one of a short list, or such a
chain and then a tick arrival, or the reset. A law of the states is kept by every step when it is kept by each. -/

namespace Sys2Proof.Machine

/-! ### The changes -/

/-- What the port layer, the capture lines and the Notification Unit keep of a master beside its session, slots,
template and items: any of it may move, a port in a lawful frame state staying in one, a watermark staying within
its bounds, and no READ ITEMS answer beginning on a detached port. -/
structure MasterState.Bookkeeping (x y : MasterState) : Prop where
  same : y = { y with
    session := x.session, slots := x.slots, order := x.order, template := x.template, items := x.items }
  frame : x.frame.lawful = true → y.frame.lawful = true
  watermark : y.watermark = x.watermark ∨ (1 ≤ y.watermark ∧ y.watermark ≤ 128)
  reading : x.session = none → x.reading = none → y.reading = none

/-- What an event other than a store, a tick and an item completion makes of one lane, its capacity kept. -/
inductive Lane.Change (x : Lane) : Lane → Prop
  | same : Change x x
  | settings (on : Bool) (deadband keepalive : Half) (h : on = true → 4 ≤ x.capacity) :
      Change x { x with enabled := on, deadband, keepalive }
  | arm : Change x { x with checkArm := true }
  | mark : Change x { x with lossMark := true }
  | retireRecord (now : Tag) : Change x (x.retireRecord now)
  | retireGap (now : Tag) : Change x (x.retireGap now)
  | emptied : Change x x.emptied
  | clearCounters : Change x x.clearCounters

/-- The divisor and the divider count within their bounds (R4, R5). -/
abbrev DividerBounds (divisor count : Nat) : Prop := 1 ≤ divisor ∧ divisor ≤ 65536 ∧ count < divisor

/-- One change of the part at an unmoved *now*. Those that can make a slot eligible end in the arbitration that follows them (R97). -/
inductive State.Change (s : State) : State → Prop
  | pending (q : List Instr) : Change s { s with pending := q }
  | release : Change s { s with resetHold := false }
  | bookkeep (m : Master) (y : MasterState) (h : (s.master m).Bookkeeping y) : Change s (s.setMaster m y)
  | renew (m : Master) : Change s (s.onMaster m MasterState.renewLease)
  | attach (m : Master) (horizon : Half) (watchSet : LaneSet) (lease : Nat) (hs : (s.master m).session = none)
      (h1 : 1 ≤ lease) (h2 : lease ≤ 1048575) :
      Change s (s.onMaster m fun x => { x with session := some ⟨horizon, watchSet, lease, lease⟩ })
  | sessionEnd (m : Master) (why : EndReason) (y : MasterState) (hold : s.resetHold = false)
      (h : ((s.sessionEnd m why).master m).Bookkeeping y) : Change s ((s.sessionEnd m why).setMaster m y).arbitrate
  | template (m : Master) (t : Template) (sess : Session) (hs : (s.master m).session = some sess)
      (hb : 1 ≤ t.budget ∧ t.budget ≤ 4096)
      (hl : lanesRefused t.lanes sess.watchSet = false) (hh : t.lag.toNat + t.pre.toNat ≤ sess.horizon.toNat) :
      Change s (s.onMaster m fun x => { x with template := some t })
  | noTemplate (m : Master) : Change s (s.onMaster m fun x => { x with template := none })
  | submit (m : Master) (i : SlotId) (sess : Session) (cls : ReqClass) (trigger : Tag) (pre post : Half) (lanes : LaneSet)
      (lead : Bool) (budget : Nat) (label : Byte) (hold : s.resetHold = false)
      (hs : (s.master m).session = some sess) (hb : 1 ≤ budget ∧ budget ≤ 4096)
      (hl : lanesRefused lanes sess.watchSet = false) (hf : (s.master m).firstFree = some i) :
      Change s (s.enterSlot m i (.fresh .command cls trigger pre post lanes lead budget label)).arbitrate
  | capture (m : Master) (i : SlotId) (t : Template) (hold : s.resetHold = false) (ha : (s.master m).attached = true)
      (ht : (s.master m).template = some t) (hf : (s.master m).firstFree = some i) :
      Change s (s.enterSlot m i (t.request s.now)).arbitrate
  | decide (m : Master) (i : SlotId) (r : Request) (e : Ending) (hold : s.resetHold = false)
      (hr : (s.master m).slot i = some r) :
      Change s (s.onMaster m fun x => x.setSlot i (some (r.decideEnding e))).arbitrate
  | removeItem (m : Master) (y : MasterState) (hold : s.resetHold = false)
      (h : (s.master m).removeOldest.Bookkeeping y) : Change s (s.setMaster m y).arbitrate
  | claim (h : Option Master) (ha : ∀ m, h = some m → (s.master m).attached = true) : Change s { s with claim := h }
  | timeBase (src : TickSource) (d n : Nat) (level : Level)
      (h : DividerBounds s.divisor s.dividerCount → DividerBounds d n) :
      Change s { s with tickSource := src, divisor := d, dividerCount := n, tickLevel := level }
  | link (a : Assembly) (q : Level) (framing parity disabled overflow : Counter)
      (h : s.assembly.lawful = true → a.lawful = true) :
      Change s { s with
        assembly := a, qsynLevel := q, framingErrors := framing, parityErrors := parity
        disabledDiscards := disabled, queueOverflows := overflow }
  | enqueue (f : Frame) (h : s.queue.length < 16) : Change s { s with queue := s.queue ++ [f] }
  | lanes (v : Vector Lane 16) (h : ∀ l : LaneId, (s.lane l).Change v[l]) : Change s { s with lanes := v }
  | partition (l : LaneId) (capacity : Nat) (ha : capacityAllowed capacity = true) (hoff : (s.lane l).enabled = false)
      (hroom : capacity ≤ (s.lane l).capacity + s.freePool) :
      Change s (s.onLane l fun x => { x.emptied with capacity := capacity })
  | store (f : Frame) (rest : List Frame) (hold : s.resetHold = false) (hq : s.queue = f :: rest) :
      Change s ({ s.storeFrame f with queue := rest } : State).testReadiness.arbitrate
  | item (hold : s.resetHold = false) : Change s s.completeItem
  | arbitrate (hold : s.resetHold = false) : Change s s.arbitrate

/-- A chain of changes. -/
abbrev State.Changes : State → State → Prop := Relation.ReflTransGen State.Change

theorem State.Change.chain {s t : State} (h : s.Change t) : s.Changes t := .single h

/-! ### Operands in the numbers of the manual -/

theorem budgetRefused_eq_false_iff (b : Half) : budgetRefused b = false ↔ BudgetOk b := by
  simp [budgetRefused, Nat.one_le_iff_ne_zero]

theorem lanesRefused_eq_false_iff (ls watch : LaneSet) : lanesRefused ls watch = false ↔ LanesOk ls watch := by
  simp [lanesRefused, subset, LanesOk]

/-! ### Ports -/

/-- An answer newly composed has its status byte to shift (R142). -/
theorem Reply.answer_lawful (r : Reply) : (FrameState.answering r.answer).lawful = true := by
  simp [FrameState.lawful, Reply.answer, Answer.length]

theorem Answer.advance_lawful (a : Answer) : a.advance.lawful = true := by
  unfold Answer.advance
  split
  next h => exact decide_eq_true (p := _ < Answer.length _) h
  · rfl

theorem MasterState.Bookkeeping.refl (x : MasterState) : x.Bookkeeping x := ⟨rfl, id, .inl rfl, fun _ => id⟩

section
variable (s : State) (m : Master)

theorem State.answer_changes (r : Reply) : s.Changes (s.answer m r) :=
  .single (.bookkeep m _ ⟨rfl, fun _ => r.answer_lawful, .inl rfl, fun _ => id⟩)

/-- A taking is a renewal, the effect of the command, and an answer (R139). -/
theorem State.taken_changes (effect : State → State × Reply) (hold : s.resetHold = false)
    (h : ∀ t : State, t.resetHold = false → t.Changes (effect t).1) : s.Changes (s.taken m effect) :=
  ((Change.renew m).chain.trans (h _ hold)).trans (answer_changes ..)

theorem State.takenBad_changes : s.Changes (s.takenBad m) := by
  have hcount : s.Changes (s.onMaster m fun x => { x with badChecks := bump x.badChecks }) :=
    .single (.bookkeep m _ ⟨rfl, id, .inl rfl, fun _ => id⟩)
  exact hcount.trans (answer_changes ..)

theorem State.takenUnknown_changes (hold : s.resetHold = false) : s.Changes (s.takenUnknown m) :=
  s.taken_changes m _ hold fun _ _ => .refl

theorem State.beginSelection_changes : s.Changes (s.beginSelection m) := by
  unfold beginSelection
  split
  · exact .single (.bookkeep m _ ⟨rfl, fun _ => rfl, .inl rfl, fun _ => id⟩)
  · exact .refl
  · exact .refl
  · exact .refl

theorem State.endSelection_changes : s.Changes (s.endSelection m) :=
  .single (.bookkeep m _ ⟨rfl, fun _ => rfl, .inl rfl, fun _ _ => rfl⟩)

/-- A byte shifted out moves the port on, and takes an item with it when it is the sixth of a group (R129). -/
theorem State.shiftByte_changes (a : Answer) (hold : s.resetHold = false) : s.Changes (s.shiftByte m a) := by
  unfold shiftByte
  by_cases hg : a.endsGroup = true
  · simp only [hg, if_true]
    refine .single (.removeItem m _ hold ⟨rfl, fun _ => a.advance_lawful, .inl rfl, fun _ h => ?_⟩)
    simp [h]
  · simp only [hg]
    refine .single (.bookkeep m _ ⟨rfl, fun _ => a.advance_lawful, .inl rfl, fun _ h => ?_⟩)
    simp [h]

theorem State.clockByteOut_changes (hold : s.resetHold = false) : s.Changes (s.clockByteOut m) := by
  unfold clockByteOut
  split
  · exact s.shiftByte_changes m _ hold
  · exact .single (.bookkeep m _ ⟨rfl, id, .inl rfl, fun _ => id⟩)
  · exact .single (.bookkeep m _ ⟨rfl, id, .inl rfl, fun _ => id⟩)
  · exact .refl

theorem State.finishGroup_changes (hold : s.resetHold = false) : s.Changes (s.finishGroup m) := by
  unfold finishGroup
  split
  · split
    · exact s.shiftByte_changes m _ hold
    · exact .refl
  · exact .refl
  · exact .refl
  · exact .refl

/-! ### Sessions, buffers and flags -/

theorem takeAttach_changes (h : Half) (w : LaneSet) (l : BitVec 24) : s.Changes (takeAttach m h w l s).1 := by
  unfold takeAttach
  split
  · exact .refl
  · next hs =>
    split
    · exact .refl
    · next hl =>
      rw [Config.maxLease] at hl
      exact .single (.attach m h w _ (by simpa [MasterState.attached] using hs) (by omega) (by omega))

/-- A session end is a change also where nothing is restored after it. -/
theorem State.sessionEnd_changes (why : EndReason) (hold : s.resetHold = false) :
    s.Changes (s.sessionEnd m why).arbitrate := by
  have h := (Change.sessionEnd m why _ hold (.refl ((s.sessionEnd m why).master m))).chain
  rwa [State.setMaster_self] at h

theorem takeDetach_changes (hold : s.resetHold = false) : s.Changes (takeDetach m s).1 := by
  unfold takeDetach
  split
  · exact s.sessionEnd_changes m _ hold
  · exact .refl

theorem MasterState.restorePort_bookkeeping (x : MasterState) : x.Bookkeeping x.restorePort :=
  ⟨rfl, id, .inr (by simp [restorePort]), fun _ => id⟩

theorem takeResetPort_changes (hold : s.resetHold = false) : s.Changes (takeResetPort m s).1 := by
  unfold takeResetPort
  dsimp only
  split
  · exact .single (.sessionEnd m .portReset _ hold (MasterState.restorePort_bookkeeping _))
  · exact (State.Change.bookkeep m _ (s.master m).restorePort_bookkeeping).chain.tail (.arbitrate hold)

theorem takeReadItems_changes (n : Byte) : s.Changes (takeReadItems m n s).1 := by
  unfold takeReadItems
  split
  · exact .refl
  · next hs =>
    split
    · exact .refl
    · exact .single (.bookkeep m _ ⟨rfl, id, .inl rfl, fun h => absurd h (by simpa [MasterState.attached] using hs)⟩)

theorem takeSetWatermark_changes (w : Byte) : s.Changes (takeSetWatermark m w s).1 := by
  unfold takeSetWatermark
  split
  · exact .refl
  · next hw =>
    rw [Config.bufferDepth] at hw
    exact .single (.bookkeep m _ ⟨rfl, id, .inr ⟨by simp; omega, by simp; omega⟩, fun _ => id⟩)

theorem takeAckFlags_changes (f : Byte) : s.Changes (takeAckFlags m f s).1 :=
  .single (.bookkeep m _ ⟨rfl, id, .inl rfl, fun _ => id⟩)

theorem takeSetMask_changes (f : Byte) : s.Changes (takeSetMask m f s).1 :=
  .single (.bookkeep m _ ⟨rfl, id, .inl rfl, fun _ => id⟩)

/-! ### Requests and templates -/

theorem takeSubmitWindow_changes (t : Tag) (pre post : Half) (ls : LaneSet) (c : Byte) (b : Half) (lab : Byte)
    (hold : s.resetHold = false) : s.Changes (takeSubmitWindow m t pre post ls c b lab s).1 := by
  unfold takeSubmitWindow
  split
  · exact .refl
  next sess hs =>
    dsimp only
    split
    · exact .refl
    next hb =>
    split
    · exact .refl
    next hl =>
    split
    · exact .refl
    split
    · exact .refl
    split
    · exact .refl
    next i hf =>
      exact .single (.submit m i sess _ _ pre post ls _ _ lab hold hs
        ((budgetRefused_eq_false_iff b).mp (by simpa using hb)) (by simpa using hl) hf)

theorem takeCancel_changes (i : Byte) (hold : s.resetHold = false) : s.Changes (takeCancel m i s).1 := by
  unfold takeCancel
  split
  · exact .refl
  split
  · exact .refl
  next k _ =>
  split
  · exact .refl
  next r hr =>
  split
  · exact .refl
  · exact .single (.decide m k r .cancelled hold hr)

theorem takeQuerySlot_changes (i : Byte) : s.Changes (takeQuerySlot m i s).1 := by
  unfold takeQuerySlot
  split
  · exact .refl
  · split <;> exact .refl

theorem takeSetTemplate_changes (lag pre post : Half) (ls : LaneSet) (c : Byte) (b : Half) (lab : Byte) :
    s.Changes (takeSetTemplate m lag pre post ls c b lab s).1 := by
  unfold takeSetTemplate
  split
  · exact .refl
  next sess hs =>
  split
  · exact .refl
  next hb =>
  split
  · exact .refl
  next hl =>
  split
  · exact .refl
  next hh =>
    exact .single (.template m ⟨lag, pre, post, ls, _, _, _, lab⟩ sess hs
      ((budgetRefused_eq_false_iff b).mp (by simpa using hb)) (by simpa using hl) (not_lt.mp hh))

theorem takeClearTemplate_changes : s.Changes (takeClearTemplate m s).1 := by
  unfold takeClearTemplate
  split
  · exact .refl
  · exact .single (.noTemplate m)

/-- The arrival of an edge is counted as refused or admits a request (R89, R91). -/
theorem State.captureArrives_changes (hold : s.resetHold = false) : s.Changes (s.captureArrives m) := by
  unfold captureArrives
  dsimp only
  split
  · exact .single (.bookkeep m _ ⟨rfl, id, .inl rfl, fun _ => id⟩)
  next ha =>
  split
  · exact .single (.bookkeep m _ ⟨rfl, id, .inl rfl, fun _ => id⟩)
  next t ht =>
  split
  · exact .single (.bookkeep m _ ⟨rfl, id, .inl rfl, fun _ => id⟩)
  next i hf => exact .single (.capture m i t hold (by simpa using ha) ht hf)

theorem State.seeCap_changes (level : Level) (hold : s.resetHold = false) : s.Changes (s.seeCap m level) := by
  have hlevel : s.Changes (s.onMaster m fun x => { x with capLevel := level }) :=
    .single (.bookkeep m _ ⟨rfl, id, .inl rfl, fun _ => id⟩)
  unfold seeCap
  dsimp only
  split
  · exact hlevel.trans (captureArrives_changes _ m hold)
  · exact hlevel

/-! ### The claim and the shared settings -/

theorem takeClaim_changes : s.Changes (takeClaim m s).1 := by
  unfold takeClaim
  split
  · exact .refl
  next ha =>
  split
  · exact .single (.claim _ fun n hn => by cases hn; simpa using ha)
  · split <;> exact .refl

theorem takeRelease_changes : s.Changes (takeRelease m s).1 := by
  unfold takeRelease
  split
  · exact .refl
  · split
    · exact .single (.claim none fun _ h => nomatch h)
    · exact .refl

/-- A claim-only command is refused, or has its own effect (R163). -/
theorem State.underClaim_changes (n : Nat) (own : State × Reply) (h : s.Changes own.1) :
    s.Changes (s.underClaim m n own).1 := by
  unfold underClaim
  split
  · exact .refl
  · exact h

/-- A change of one lane. -/
theorem State.onLane_changes (l : LaneId) (f : Lane → Lane) (h : (s.lane l).Change (f (s.lane l))) :
    s.Changes (s.onLane l f) := by
  refine .single (.lanes (s.onLane l f).lanes fun k => ?_)
  change (s.lane k).Change ((s.onLane l f).lane k)
  rw [onLane_lane]
  split
  · next hk => exact hk ▸ h
  · exact .same

/-- One change of every lane of a set. -/
theorem State.onLanes_changes (ls : LaneSet) (f : Lane → Lane) (h : ∀ x : Lane, x.Change (f x)) :
    s.Changes (s.onLanes ls f) := by
  refine .single (.lanes (s.onLanes ls f).lanes fun k => ?_)
  change (s.lane k).Change ((s.onLanes ls f).lane k)
  rw [onLanes_lane]
  split
  · exact h _
  · exact .same

theorem takeLaneSetup_changes (l e : Byte) (d k : Half) : s.Changes (takeLaneSetup m l e d k s).1 := by
  refine s.underClaim_changes m _ _ ?_
  split
  · exact .refl
  next n _ =>
  split
  · exact .refl
  next hroom =>
    have hplaces : enableOf e = true → 4 ≤ (s.lane n).capacity := fun hon => by simpa [hon] using hroom
    exact s.onLane_changes n (fun x => { x with enabled := enableOf e, deadband := d, keepalive := k })
      (.settings _ d k hplaces)

theorem takePartition_changes (l : Byte) (c : Half) : s.Changes (takePartition m l c s).1 := by
  refine s.underClaim_changes m _ _ ?_
  split
  · exact .refl
  next n _ =>
  split
  · exact .refl
  next hc =>
  split
  · exact .refl
  next hoff =>
  split
  · exact .refl
  split
  · exact .refl
  next hroom => exact .single (.partition n _ (by simpa using hc) (by simpa using hoff) (not_lt.mp hroom))

theorem takePurgeLanes_changes (ls : LaneSet) : s.Changes (takePurgeLanes m ls s).1 := by
  refine s.underClaim_changes m _ _ ?_
  split
  · exact .refl
  · exact s.onLanes_changes ls _ fun _ => .emptied

theorem divisorOf_bounds (d : Half) : DividerBounds (divisorOf d) 0 := by
  unfold divisorOf
  have hlt := d.isLt
  split
  · omega
  next h =>
    have hpos : d.toNat ≠ 0 := fun h0 => h (BitVec.eq_of_toNat_eq h0)
    omega

theorem takeSetTickSource_changes (src : Byte) (d : Half) : s.Changes (takeSetTickSource m src d s).1 := by
  refine s.underClaim_changes m _ _ ?_
  split
  · exact .refl
  · exact .single (.timeBase _ _ 0 s.tickLevel fun _ => divisorOf_bounds d)

theorem takeClearCounters_changes (ls : LaneSet) (d : Byte) : s.Changes (takeClearCounters m ls d s).1 := by
  refine s.underClaim_changes m _ _ ?_
  split
  · exact .refl
  next too _ =>
    have hlanes := s.onLanes_changes ls Lane.clearCounters fun _ => .clearCounters
    cases too with
    | false => exact hlanes
    | true => exact hlanes.tail (.link s.assembly s.qsynLevel 0 0 0 0 id)

theorem takeTestCheck_changes (l : Byte) : s.Changes (takeTestCheck m l s).1 := by
  refine s.underClaim_changes m _ _ ?_
  split
  · exact .refl
  · exact s.onLane_changes _ (fun x => { x with checkArm := true }) .arm

theorem takeReadLane_changes (l : Byte) : s.Changes (takeReadLane l s).1 := by
  unfold takeReadLane
  split <;> exact .refl

/-! ### Whole frames and bytes -/

/-- The taking of any command is a chain of changes. -/
theorem State.take_changes (c : Command) (hold : s.resetHold = false) : s.Changes (s.take m c) := by
  cases c with
  | attach h w l => exact s.taken_changes m _ hold fun t _ => takeAttach_changes t m h w l
  | detach => exact s.taken_changes m _ hold fun t ht => takeDetach_changes t m ht
  | keep => exact s.taken_changes m _ hold fun _ _ => .refl
  | resetPort => exact s.taken_changes m _ hold fun t ht => takeResetPort_changes t m ht
  | readDevice => exact s.taken_changes m _ hold fun _ _ => .refl
  | submitWindow t pre post ls c b lab =>
    exact s.taken_changes m _ hold fun u hu => takeSubmitWindow_changes u m t pre post ls c b lab hu
  | cancel i => exact s.taken_changes m _ hold fun t ht => takeCancel_changes t m i ht
  | querySlot i => exact s.taken_changes m _ hold fun t _ => takeQuerySlot_changes t m i
  | setTemplate lag pre post ls c b lab =>
    exact s.taken_changes m _ hold fun t _ => takeSetTemplate_changes t m lag pre post ls c b lab
  | clearTemplate => exact s.taken_changes m _ hold fun t _ => takeClearTemplate_changes t m
  | readItems n => exact s.taken_changes m _ hold fun t _ => takeReadItems_changes t m n
  | setWatermark w => exact s.taken_changes m _ hold fun t _ => takeSetWatermark_changes t m w
  | readLane l => exact s.taken_changes m _ hold fun t _ => takeReadLane_changes t l
  | readFlags => exact s.taken_changes m _ hold fun _ _ => .refl
  | ackFlags f => exact s.taken_changes m _ hold fun t _ => takeAckFlags_changes t m f
  | setMask f => exact s.taken_changes m _ hold fun t _ => takeSetMask_changes t m f
  | claim => exact s.taken_changes m _ hold fun t _ => takeClaim_changes t m
  | release => exact s.taken_changes m _ hold fun t _ => takeRelease_changes t m
  | laneSetup l e d k => exact s.taken_changes m _ hold fun t _ => takeLaneSetup_changes t m l e d k
  | partition l c => exact s.taken_changes m _ hold fun t _ => takePartition_changes t m l c
  | purgeLanes ls => exact s.taken_changes m _ hold fun t _ => takePurgeLanes_changes t m ls
  | setTickSource src d => exact s.taken_changes m _ hold fun t _ => takeSetTickSource_changes t m src d
  | clearCounters ls d => exact s.taken_changes m _ hold fun t _ => takeClearCounters_changes t m ls d
  | testCheck l => exact s.taken_changes m _ hold fun t _ => takeTestCheck_changes t m l

/-- A frame can be taken only while RST is released. -/
theorem State.resetHold_of_canTake {frame : List Byte} (h : s.canTake m frame = true) : s.resetHold = false := by
  unfold canTake at h
  rw [Bool.and_eq_true] at h
  simpa using h.1

theorem State.command_changes (c : Command) : s.Changes (s.command m c) := by
  unfold command
  split
  next h => exact s.take_changes m c (s.resetHold_of_canTake m h)
  · exact .refl

theorem State.takeFrame_changes (frame : List Byte) (hold : s.resetHold = false) : s.Changes (s.takeFrame m frame) := by
  unfold takeFrame
  split
  · exact s.takenBad_changes m
  · split
    · exact s.takenUnknown_changes m hold
    · exact s.take_changes m _ hold

theorem State.receiveByte_changes (b : Byte) (hold : s.resetHold = false) : s.Changes (s.receiveByte m b) := by
  unfold receiveByte
  split
  · next got _ =>
    split
    · next hlen =>
      refine .single (.bookkeep m _ ⟨rfl, fun _ => ?_, .inl rfl, fun _ => id⟩)
      cases got <;> simpa [FrameState.lawful] using hlen
    · exact s.takeFrame_changes m _ hold
  · exact .refl
  · exact .refl
  · exact .refl

/-! ### Time and the link -/

/-- The part ticks, after changes that leave *now* where it is. -/
def State.TicksTo (s t : State) : Prop := ∃ u, s.Changes u ∧ u.resetHold = false ∧ t = u.tick

/-- A level seen on TICK that is not high after low under the EXTERNAL source is only kept (R3). -/
theorem State.seeTick_changes (level : Level)
    (h : ¬ (s.tickSource = .external ∧ s.tickLevel = .low ∧ level = .high)) : s.Changes (s.seeTick level) := by
  rw [seeTick, if_neg h]
  exact .single (.timeBase s.tickSource s.divisor s.dividerCount level id)

/-- High after low under the EXTERNAL source ticks (R3). -/
theorem State.seeTick_ticks (level : Level) (hold : s.resetHold = false)
    (h : s.tickSource = .external ∧ s.tickLevel = .low ∧ level = .high) : s.TicksTo (s.seeTick level) := by
  rw [seeTick, if_pos h]
  exact ⟨_, .single (.timeBase s.tickSource s.divisor s.dividerCount level id), hold, rfl⟩

/-- The period that brings the divider count to D ticks (R4). -/
theorem State.dividerReachesDivisor_ticks (hold : s.resetHold = false) (hs : s.tickSource = .divided)
    (hd : s.divisor ≤ s.dividerCount + 1) : s.TicksTo s.dividerReachesDivisor := by
  have hcount : s.Changes { s with dividerCount := 0 } :=
    .single (.timeBase s.tickSource s.divisor 0 s.tickLevel (by omega))
  exact ⟨_, hcount, hold, s.dividerReachesDivisor_of_due hs hd⟩

/-- An arriving frame is counted, marks its lane, or joins the queue (R48 to R51). -/
theorem State.frameArrives_changes (f : BitVec 22) : s.Changes (s.frameArrives f) := by
  unfold frameArrives
  split
  · exact .single (.link s.assembly s.qsynLevel _ _ _ _ id)
  split
  · exact .single (.link s.assembly s.qsynLevel _ _ _ _ id)
  split
  · exact (s.onLane_changes (frameLane f) _ .mark).tail (.link s.assembly s.qsynLevel _ _ _ _ id)
  next hroom => exact .single (.enqueue _ (not_le.mp hroom))

theorem State.qclkEdge_changes (q : Level) (d : Bool) : s.Changes (s.qclkEdge q d) := by
  unfold qclkEdge
  dsimp only
  split
  · split
    · exact .single (.link (.assembling [d]) q _ _ _ _ fun _ => rfl)
    · exact .single (.link (.assembling [d]) q _ _ _ _ fun _ => rfl)
  · split
    · exact .single (.link s.assembly q _ _ _ _ id)
    next bits _ =>
    split
    next hlen =>
      refine .single (.link (.assembling (bits ++ [d])) q _ _ _ _ fun _ => ?_)
      rw [Config.frameBits] at hlen
      simp [Assembly.lawful]
      omega
    · exact (Change.link .idle q _ _ _ _ fun _ => rfl).chain.trans (frameArrives_changes _ _)

theorem State.unlessHeld_of_released {f : State → State} (hold : s.resetHold = false) : s.unlessHeld f = f s := by
  simp [unlessHeld, hold]

theorem State.unlessHeld_of_held {f : State → State} (hold : s.resetHold = true) : s.unlessHeld f = s := by
  simp [unlessHeld, hold]

/-- An event that is ignored while RST is low. -/
theorem State.unlessHeld_changes (f : State → State) (h : s.resetHold = false → s.Changes (f s)) :
    s.Changes (s.unlessHeld f) := by
  unfold unlessHeld
  split
  · exact .refl
  next hold => exact h (by simpa using hold)

end

/-! ### Rows and steps -/

/-- A row that a command frame carries is the taking of its command (R139). -/
theorem exec_rowOf (m : Master) (c : Command) (s : State) : exec (rowOf m c) s = .next (s.command m c) := by
  cases c <;> rfl

section
variable {s t : State}

/-- An event that leaves the part alone while RST is low, by its meaning while RST is released. -/
theorem changes_of_unlessHeld {f : State → State} (h : s.resetHold = false → s.Changes (f s))
    (ht : Host.Outcome.next (φ := Fault) (ρ := Refusal) (s.unlessHeld f) = .next t) : s.Changes t := by
  obtain rfl := Host.Outcome.next.inj ht
  exact s.unlessHeld_changes f h

theorem changes_of_command {m : Master} {c : Command}
    (ht : Host.Outcome.next (φ := Fault) (ρ := Refusal) (s.command m c) = .next t) : s.Changes t := by
  obtain rfl := Host.Outcome.next.inj ht
  exact s.command_changes m c

/-- The rows that can move *now*. -/
def movesNow : Instr → Bool
  | .tickArrival | .tickLevelChange _ | .dividerExpiry | .powerOnReset => true
  | _ => false

/-- Every other row of the table is a chain of changes. -/
theorem exec_changes (i : Instr) (hi : movesNow i = false) (h : exec i s = .next t) : s.Changes t := by
  cases i with
  | tickArrival | tickLevelChange | dividerExpiry | powerOnReset => exact nomatch hi
  | attach | detach | keep | resetPort | readDevice | submitWindow | cancel | querySlot | setTemplate | clearTemplate
  | readItems | setWatermark | readLane | readFlags | ackFlags | setMask | claim | release | laneSetup | partition
  | purgeLanes | setTickSource | clearCounters | testCheck => exact changes_of_command h
  | badCheckFrame m frame =>
    obtain rfl := Host.Outcome.next.inj h
    split
    · exact s.takenBad_changes m
    · exact .refl
  | unknownCodeFrame m code =>
    obtain rfl := Host.Outcome.next.inj h
    split
    next hc =>
      rw [Bool.and_eq_true] at hc
      exact s.takenUnknown_changes m (s.resetHold_of_canTake m hc.2)
    · exact .refl
  | selectionBegin m => exact changes_of_unlessHeld (fun _ => s.beginSelection_changes m) h
  | selectionEnd m => exact changes_of_unlessHeld (fun _ => s.endSelection_changes m) h
  | itemRemoval m => exact changes_of_unlessHeld (fun hold => s.finishGroup_changes m hold) h
  | leaseExpiry m =>
    refine changes_of_unlessHeld (fun hold => ?_) h
    split
    · exact s.sessionEnd_changes m .lease hold
    · exact .refl
  | requestExpiry m i =>
    refine changes_of_unlessHeld (fun hold => ?_) h
    split
    next r hr =>
      split
      next hdue =>
        rw [Request.expire, if_pos hdue]
        exact .single (.decide m i r .expired hold hr)
      · exact .refl
    · exact .refl
  | recordRetirement l => exact changes_of_unlessHeld (fun _ => s.onLane_changes l _ (.retireRecord _)) h
  | openGapRetirement l => exact changes_of_unlessHeld (fun _ => s.onLane_changes l _ (.retireGap _)) h
  | captureEdge m => exact changes_of_unlessHeld (fun hold => s.seeCap_changes m _ hold) h
  | sampleFrameArrival q f =>
    refine changes_of_unlessHeld (fun _ => ?_) h
    split
    · have hidle : s.Changes { s with assembly := .idle, qsynLevel := q } :=
        .single (.link .idle q _ _ _ _ fun _ => rfl)
      exact hidle.trans (State.frameArrives_changes _ f)
    · exact .refl
  | partialFrameDiscard d => exact changes_of_unlessHeld (fun _ => s.qclkEdge_changes _ d) h
  | storeCompletion =>
    refine changes_of_unlessHeld (fun hold => ?_) h
    unfold State.completeStore
    split
    · exact .refl
    next f rest hq => exact .single (.store f rest hold hq)
  | itemCompletion => exact changes_of_unlessHeld (fun hold => .single (.item hold)) h
  | frameStart d => exact changes_of_unlessHeld (fun _ => s.qclkEdge_changes _ d) h
  | linkBitSampled q d => exact changes_of_unlessHeld (fun _ => s.qclkEdge_changes q d) h
  | byteReceived m b => exact changes_of_unlessHeld (fun hold => s.receiveByte_changes m b hold) h
  | answerByteShifted m => exact changes_of_unlessHeld (fun hold => s.clockByteOut_changes m hold) h
  | rstRelease =>
    obtain rfl := Host.Outcome.next.inj h
    exact .single .release
  | capFallingEdge m => exact changes_of_unlessHeld (fun hold => s.seeCap_changes m _ hold) h

/-- The part as RST going low leaves it, with the commands that wait (R7, R57). -/
def heldReset (q : List Instr) : State := { State.reset with resetHold := true, pending := q }

/-- From `s` the part goes to `t` by one tick arrival where a tick is due, and else with *now* unmoved. -/
def State.GoesTo (s t : State) : Prop := (s.TickDue → s.TicksTo t) ∧ (¬ s.TickDue → s.Changes t)

/-- What a step with no command waiting does (R4, R7). -/
theorem State.goesTo_idle (hp : s.pending = []) : s.GoesTo s.idle := by
  have hdue : s.TickDue ↔ s.resetHold = false ∧ s.tickSource = .divided ∧ s.divisor ≤ s.dividerCount + 1 := by
    simp [State.TickDue, hp]
  refine ⟨fun h => ?_, fun h => s.unlessHeld_changes _ fun hold => ?_⟩
  · obtain ⟨hold, hs, hd⟩ := hdue.mp h
    simp only [State.idle, State.unlessHeld, hold, State.clockPeriod, hs, if_neg (not_lt.mpr hd)]
    exact s.dividerReachesDivisor_ticks hold hs hd
  · cases hs : s.tickSource with
    | external => simp only [State.clockPeriod, hs]; exact .refl
    | divided =>
      have hmore : s.dividerCount + 1 < s.divisor := not_le.mp fun hd => h (hdue.mpr ⟨hold, hs, hd⟩)
      simp only [State.clockPeriod, hs, if_pos hmore]
      exact .single (.timeBase _ s.divisor _ s.tickLevel (by omega))

section
variable {c : Instr} {rest : List Instr}

/-- A row whose effect on the part, its command taken off the queue, ticks or not as TickDue says. -/
theorem State.goesTo_of_row {f : State → State}
    (hticks : ∀ u : State, u = { s with pending := rest } → s.TickDue → u.resetHold = false ∧ u.TicksTo (f u))
    (hquiet : ∀ u : State, u = { s with pending := rest } → ¬ s.TickDue → u.resetHold = false → u.Changes (f u)) :
    s.GoesTo (({ s with pending := rest } : State).unlessHeld f) := by
  have hrest : s.Changes { s with pending := rest } := .single (.pending rest)
  refine ⟨fun hdue => ?_, fun hdue => hrest.trans (unlessHeld_changes _ _ (hquiet _ rfl hdue))⟩
  obtain ⟨hold, u, hchain, htick⟩ := hticks _ rfl hdue
  rw [State.unlessHeld_of_released _ hold]
  exact ⟨u, hrest.trans hchain, htick⟩

/-- What the rows that see a level on TICK do (R3). -/
theorem State.goesTo_seeTick (level : Level) (hp : s.pending = c :: rest)
    (hc : c = .tickLevelChange level ∨ level = .high ∧ c = .tickArrival) :
    s.GoesTo (({ s with pending := rest } : State).unlessHeld fun u => u.seeTick level) := by
  have hdue : s.TickDue ↔ s.resetHold = false ∧ s.tickSource = .external ∧ s.tickLevel = .low ∧ level = .high := by
    rcases hc with rfl | ⟨rfl, rfl⟩ <;> simp [State.TickDue, hp]
  refine State.goesTo_of_row ?_ ?_
  · rintro u rfl h
    obtain ⟨hold, hlevel⟩ := hdue.mp h
    exact ⟨hold, seeTick_ticks _ _ hold hlevel⟩
  · rintro u rfl h hold
    exact seeTick_changes _ _ fun hlevel => h (hdue.mpr ⟨hold, hlevel⟩)

/-- What the row of the divider does (R4, R6). -/
theorem State.goesTo_dividerExpiry (hp : s.pending = .dividerExpiry :: rest) :
    s.GoesTo (({ s with pending := rest } : State).unlessHeld dividerReachesDivisor) := by
  have hdue : s.TickDue ↔ s.resetHold = false ∧ s.tickSource = .divided ∧ s.divisor ≤ s.dividerCount + 1 := by
    simp [State.TickDue, hp]
  refine State.goesTo_of_row ?_ ?_
  · rintro u rfl h
    obtain ⟨hold, hs, hd⟩ := hdue.mp h
    exact ⟨hold, dividerReachesDivisor_ticks _ hold hs hd⟩
  · rintro u rfl h hold
    have hnot : s.tickSource = .external ∨ s.dividerCount + 1 < s.divisor := by
      cases hs : s.tickSource with
      | external => exact .inl rfl
      | divided => exact .inr (not_le.mp fun hd => h (hdue.mpr ⟨hold, hs, hd⟩))
    rw [dividerReachesDivisor_of_not_due { s with pending := rest } hnot]

end

/-- A step is the reset where POWER_ON_RESET is in front, and else moves *now* by the one tick that is due, or not at
all (R1, R3, R4, R7). -/
theorem step_cases (h : step s = .next t) :
    (s.pending.head? = some .powerOnReset ∧ ¬ s.TickDue ∧ ∃ q, t = heldReset q)
      ∨ (s.pending.head? ≠ some .powerOnReset ∧ s.GoesTo t) := by
  unfold step at h
  split at h
  next hp =>
    obtain rfl := Host.Outcome.next.inj h
    exact .inr ⟨by simp [hp], State.goesTo_idle hp⟩
  next c rest hp =>
    by_cases hc : c = .powerOnReset
    · subst hc
      obtain rfl := Host.Outcome.next.inj h
      exact .inl ⟨by simp [hp], by simp [State.TickDue, hp], rest, rfl⟩
    refine .inr ⟨by simpa [hp] using hc, ?_⟩
    by_cases hquiet : movesNow c = false
    · have hdue : ¬ s.TickDue := fun hdue => by
        obtain ⟨-, ⟨-, -, hhead⟩ | ⟨-, -, hhead⟩⟩ := hdue <;> simp [hp] at hhead
        · rcases hhead with rfl | rfl <;> exact nomatch hquiet
        · subst hhead; exact nomatch hquiet
      have hrest : s.Changes { s with pending := rest } := .single (.pending rest)
      exact ⟨fun h => absurd h hdue, fun _ => hrest.trans (exec_changes c hquiet h)⟩
    cases c with
    | tickArrival =>
      obtain rfl := Host.Outcome.next.inj h
      exact State.goesTo_seeTick _ hp (.inr ⟨rfl, rfl⟩)
    | tickLevelChange level =>
      obtain rfl := Host.Outcome.next.inj h
      exact State.goesTo_seeTick _ hp (.inl rfl)
    | dividerExpiry =>
      obtain rfl := Host.Outcome.next.inj h
      exact State.goesTo_dividerExpiry hp
    | powerOnReset => exact absurd rfl hc
    | _ => exact absurd rfl hquiet

/-- What every change keeps, a chain of changes keeps. -/
theorem State.Changes.keeps {P : State → Prop} (keeps : ∀ u v : State, u.Change v → P u → P v) (h : s.Changes t)
    (hs : P s) : P t := by
  induction h with
  | refl => exact hs
  | tail _ hchange ih => exact keeps _ _ hchange ih

/-- A law that holds of a held reset and that every change and every tick arrival keep is kept by every step. -/
theorem step_keeps {P : State → Prop} (reset : ∀ q, P (heldReset q))
    (keeps : ∀ u v : State, u.Change v → P u → P v)
    (tick : ∀ u : State, u.resetHold = false → P u → P u.tick) (hs : P s) (h : step s = .next t) : P t := by
  rcases step_cases h with ⟨-, -, q, rfl⟩ | ⟨-, hdue, hquiet⟩
  · exact reset q
  by_cases h : s.TickDue
  · obtain ⟨u, hchain, hold, rfl⟩ := hdue h
    exact tick u hold (hchain.keeps keeps hs)
  · exact (hquiet h).keeps keeps hs

end

end Sys2Proof.Machine
end

section
/-! PROOFS. The reactions to one tick arrival (R2, R35, R36, R68, R76, R150): what they make of every lane, of every
master, of the service and of the claim, before the engine arbitrates. -/

namespace Sys2Proof.Machine

/-! ### The lease countdown (R150) -/

theorem filter_const_true {α : Type} (o : Option α) : (o.filter fun _ => true) = o := by cases o <;> rfl

/-- The next tick brings the lease of the port to 0. -/
def MasterState.leaseEnds (x : MasterState) : Bool := x.session.any fun sess => sess.leaseRemaining ≤ 1

/-- What the countdown makes of a master's own state. -/
def MasterState.countLease (x : MasterState) : MasterState :=
  if x.leaseEnds then x.endSession .lease
  else { x with session := x.session.map fun sess => { sess with leaseRemaining := sess.leaseRemaining - 1 } }

/-- The countdown of one port: its own state, and the service and the claim where they are its (R122, R150, R161). -/
theorem State.countLease_eq (s : State) (m : Master) :
    s.countLease m = { s.onMaster m MasterState.countLease with
      serving := s.serving.filter fun v => !(v.master == m && (s.master m).leaseEnds)
      claim := s.claim.filter fun h => !(h == m && (s.master m).leaseEnds) } := by
  cases hs : (s.master m).session with
  | none =>
    have hend : (s.master m).leaseEnds = false := by simp [MasterState.leaseEnds, hs]
    have hsame : (s.master m).countLease = s.master m := by
      rw [MasterState.countLease, if_neg (by simp [hend]), hs, Option.map_none, ← hs]
    simp [State.countLease, hs, hend, State.onMaster, hsame, filter_const_true]
  | some sess =>
    by_cases hle : sess.leaseRemaining ≤ 1
    · have hend : (s.master m).leaseEnds = true := by simp [MasterState.leaseEnds, hs, hle]
      simp [State.countLease, hs, hle, hend, State.sessionEnd, State.onMaster, MasterState.countLease]
      constructor
      · cases s.serving with
        | none => rfl
        | some v => by_cases hv : v.master = m <;> simp [Option.filter, hv]
      · cases s.claim with
        | none => rfl
        | some h => by_cases hh : h = m <;> simp [Option.filter, hh]
    · have hend : (s.master m).leaseEnds = false := by simp [MasterState.leaseEnds, hs, hle]
      simp [State.countLease, hs, hle, hend, State.onMaster, MasterState.countLease, filter_const_true]
      rfl

/-- The countdowns of some ports, one after another: each port once, and the others left. -/
theorem State.foldl_countLease (ms : List Master) (hms : ms.Nodup) (s : State) :
    (∃ v : Vector MasterState 4, ms.foldl State.countLease s = { s with
        masters := v
        serving := s.serving.filter fun w => !(ms.contains w.master && (s.master w.master).leaseEnds)
        claim := s.claim.filter fun h => !(ms.contains h && (s.master h).leaseEnds) })
      ∧ ∀ n, (ms.foldl State.countLease s).master n = if n ∈ ms then (s.master n).countLease else s.master n := by
  induction ms generalizing s with
  | nil => exact ⟨⟨s.masters, by simp [filter_const_true]⟩, by simp⟩
  | cons m ms ih =>
    obtain ⟨hm, hrest⟩ := List.nodup_cons.mp hms
    obtain ⟨⟨v, hstate⟩, hmaster⟩ := ih hrest (s.countLease m)
    have hother : ∀ n, (s.countLease m).master n = if n = m then (s.master n).countLease else s.master n := fun n => by
      rw [State.countLease_eq, State.master_of_masters, State.onMaster_master]
    have hends : ∀ n, (!(ms.contains n && ((s.countLease m).master n).leaseEnds)) =
        !(ms.contains n && (s.master n).leaseEnds) := fun n => by
      rw [hother]
      split
      next h => subst h; simp [hm]
      · rfl
    have hboth : ∀ n, (!(n == m && (s.master m).leaseEnds) && !(ms.contains n && (s.master n).leaseEnds)) =
        !((m :: ms).contains n && (s.master n).leaseEnds) := fun n => by
      rw [List.contains_cons]
      cases hn : (n == m) with
      | true => rw [beq_iff_eq] at hn; subst hn; simp [hm]
      | false => simp
    refine ⟨⟨v, ?_⟩, fun n => ?_⟩
    · rw [List.foldl_cons, hstate]
      simp only [hends]
      rw [State.countLease_eq]
      simp only [Option.filter_filter, hboth]
      rfl
    · rw [List.foldl_cons, hmaster, hother]
      by_cases hn : n = m
      · subst hn; simp [hm]
      · simp [hn]

/-- The countdown of every port (R150). -/
theorem State.countLeases_eq (s : State) :
    s.countLeases = { s.onMasters MasterState.countLease with
      serving := s.serving.filter fun v => !(s.master v.master).leaseEnds
      claim := s.claim.filter fun h => !(s.master h).leaseEnds } := by
  have hall : ∀ n : Master, n ∈ allMasters := by decide
  obtain ⟨⟨v, hstate⟩, hmaster⟩ := State.foldl_countLease allMasters (by decide) s
  have hmasters : s.countLeases.masters = (s.onMasters MasterState.countLease).masters :=
    State.masters_ext fun n => by rw [State.countLeases, hmaster, if_pos (hall n), State.onMasters_master]
  have hv : s.countLeases.masters = v := by rw [State.countLeases, hstate]
  rw [State.countLeases, hstate, ← hv, hmasters]
  simp [hall, State.onMasters]

/-! ### Every reaction (R2, R187) -/

/-- The readiness test and then the expiry of one request, at a tick that brings *now* to `now` (R68, R76). -/
def Request.atTick (now : Tag) (queue : List Frame) (r : Request) : Request := (r.testReadiness now queue).expire now

theorem Request.atTick_eq (now : Tag) (queue : List Frame) :
    Request.atTick now queue = fun r => (r.testReadiness now queue).expire now := rfl

/-- The part after every reaction to a tick arrival and before the arbitration. -/
def State.reacted (s : State) : State :=
  { s with
    now := s.now + 1
    lanes := s.lanes.map fun x => (x.retireRecord (s.now + 1)).retireGap (s.now + 1)
    masters := s.masters.map fun x => (x.onSlots (Request.atTick (s.now + 1) s.queue)).countLease
    serving := s.serving.filter fun v => !(s.master v.master).leaseEnds
    claim := s.claim.filter fun h => !(s.master h).leaseEnds }

theorem MasterState.onSlots_onSlots (x : MasterState) (f g : Request → Request) :
    (x.onSlots f).onSlots g = x.onSlots (g ∘ f) := by
  simp [MasterState.onSlots, changeAll_eq_map, Function.comp_def]

@[simp] theorem MasterState.onSlots_leaseEnds (x : MasterState) (f : Request → Request) :
    (x.onSlots f).leaseEnds = x.leaseEnds := rfl

/-- A tick arrival is its reactions and then the arbitration (R97, R187). -/
theorem State.tick_eq (s : State) : s.tick = s.reacted.arbitrate := by
  have hreact : (({ s with now := s.now + 1 } : State).retire.testReadiness.expireRequests).countLeases = s.reacted := by
    rw [State.countLeases_eq]
    simp [State.reacted, State.onMasters, State.expireRequests, State.testReadiness, State.retire, changeAll_eq_map,
      MasterState.onSlots_onSlots, Function.comp_def, Request.atTick_eq, State.master]
  rw [State.tick, hreact]

section
variable (s : State)

@[simp] theorem State.reacted_lane (l : LaneId) :
    s.reacted.lane l = ((s.lane l).retireRecord (s.now + 1)).retireGap (s.now + 1) := by
  simp [State.reacted, State.lane]

@[simp] theorem State.reacted_master (m : Master) :
    s.reacted.master m = ((s.master m).onSlots (Request.atTick (s.now + 1) s.queue)).countLease := by
  simp [State.reacted, State.master]

end

/-- What a lane holds after its retirements, in the numbers of the manual (R35, R36). -/
theorem Lane.retired_eq (now : Tag) (x : Lane) :
    (x.retireRecord now).retireGap now = { x with
      records := if x.records.head?.any (fun r => (now - r.key).toNat == 8388608) then x.records.tail else x.records
      openGap := if x.openGap.any (fun g => (now - g.firstLost).toNat == 8388608) then none else x.openGap
      lossMark := x.lossMark || x.openGap.any (fun g => (now - g.firstLost).toNat == 8388608) } := by
  have hrecord : x.recordDue now = x.records.head?.any fun r => (now - r.key).toNat == 8388608 := rfl
  have hgap : (x.retireRecord now).gapDue now = x.openGap.any fun g => (now - g.firstLost).toNat == 8388608 := by
    unfold Lane.retireRecord; split <;> rfl
  rw [Lane.retireGap, hgap, Lane.retireRecord, hrecord]
  split <;> split <;> simp_all

theorem MasterState.leaseEnds_iff (x : MasterState) :
    x.leaseEnds = true ↔ ∃ sess ∈ x.session, sess.leaseRemaining ≤ 1 := by
  simp [MasterState.leaseEnds, Option.any_eq_true]

/-- Settles O4: the state the tick arbitrates is the one after its reactions. -/
theorem tickReactions : Obligations.TickReactions := by
  unfold Obligations.TickReactions
  intro s
  refine ⟨s.reacted, s.tick_eq, ?_, fun l => ?_, fun m => ⟨fun hs => ?_, fun x hs h2 => ?_, fun x hs h1 => ?_⟩⟩
  · have hserving : s.reacted.serving = match s.serving with
        | some v => if ∃ x ∈ (s.master v.master).session, x.leaseRemaining ≤ 1 then none else some v
        | none => none := by
      simp only [State.reacted, ← MasterState.leaseEnds_iff]
      cases s.serving with
      | none => rfl
      | some v => cases h : (s.master v.master).leaseEnds <;> simp [Option.filter, h]
    have hclaim : s.reacted.claim = match s.claim with
        | some h => if ∃ x ∈ (s.master h).session, x.leaseRemaining ≤ 1 then none else some h
        | none => none := by
      simp only [State.reacted, ← MasterState.leaseEnds_iff]
      cases s.claim with
      | none => rfl
      | some v => cases h : (s.master v).leaseEnds <;> simp [Option.filter, h]
    have hsame : s.reacted = { s with
        now := s.now + 1, lanes := s.reacted.lanes, masters := s.reacted.masters
        serving := s.reacted.serving, claim := s.reacted.claim } := rfl
    rw [hserving, hclaim] at hsame
    exact hsame
  · rw [State.reacted_lane, Lane.retired_eq]
  · have hend : (s.master m).leaseEnds = false := by simp [MasterState.leaseEnds, hs]
    rw [State.reacted_master, MasterState.countLease, MasterState.onSlots_leaseEnds, hend, Request.atTick_eq]
    simp [MasterState.onSlots, changeAll_eq_map, hs]
  · have hend : (s.master m).leaseEnds = false := by simp [MasterState.leaseEnds, hs]; omega
    rw [State.reacted_master, MasterState.countLease, MasterState.onSlots_leaseEnds, hend, Request.atTick_eq]
    simp [MasterState.onSlots, changeAll_eq_map, hs]
  · have hend : (s.master m).leaseEnds = true := by simp [MasterState.leaseEnds, hs, h1]
    rw [State.reacted_master, MasterState.countLease, MasterState.onSlots_leaseEnds, hend, State.sessionEnd_master_same]
    rfl

end Sys2Proof.Machine
end

section
/-! PROOFS. The laws of the lanes (R14, R15, R19, R20) and of the ports (R4, R45, R52, R138, R142): every change keeps
them, so every step does. -/

namespace Sys2Proof.Machine

/-! ### What the larger operations leave of the lanes, the queue and the time base -/

section
variable (s : State)

@[simp] theorem State.arbitrate_lanes : s.arbitrate.lanes = s.lanes := s.arbitrate_frame.lanes
@[simp] theorem State.arbitrate_lane (l : LaneId) : s.arbitrate.lane l = s.lane l := s.arbitrate_frame.lane l


@[simp] theorem State.testReadiness_lane (l : LaneId) : s.testReadiness.lane l = s.lane l := rfl

/-- A lane of the part after a store completion: the frame's lane is settled, every other is left (R26). -/
theorem State.store_lane (f : Frame) (rest : List Frame) (l : LaneId) :
    (({ s.storeFrame f with queue := rest } : State).testReadiness.arbitrate).lane l
      = if l = f.lane then (s.lane l).applyStore f ((s.lane l).storeStep s.now (s.protectAge l) f) else s.lane l := by
  rw [arbitrate_lane, testReadiness_lane, lane_of_lanes]
  split
  next h => rw [h, storeFrame_lane_same]
  next h => rw [storeFrame_lane_other _ _ h]

/-- An item completion counts a CORRUPT item in its lane, and leaves the lanes otherwise (R113). -/
theorem State.completeItem_lane (l : LaneId) :
    s.completeItem.lane l = s.lane l ∨ s.completeItem.lane l = { s.lane l with corrupt := bump (s.lane l).corrupt } := by
  unfold completeItem
  split
  · exact .inl rfl
  next v _ =>
  dsimp only
  split
  · exact .inl (by simp)
  split
  · exact .inl (by simp)
  · rw [(boundary_frame ..).lane]
    unfold countCorrupt
    split
    · rw [onLane_lane, onMaster_lane]
      split
      · exact .inr rfl
      · exact .inl rfl
    · exact .inl rfl

/-! ### The law of the lanes -/

end

/-- Two runs of records that obey R20 obey it end to end. -/
theorem gapsFollowed_append {rs ts : List Record} (hr : gapsFollowed rs = true) (ht : gapsFollowed ts = true) :
    gapsFollowed (rs ++ ts) = true := by
  induction rs using gapsFollowed.induct with
  | case1 => exact ht
  | case2 | case3 => simp [gapsFollowed] at hr
  | case4 _ _ _ _ _ _ _ _ _ rest ih | case5 _ _ _ _ _ rest ih =>
    rw [gapsFollowed] at hr
    simpa [gapsFollowed] using ih hr

/-- Whether a run of records obeys R20 does not depend on what its newest SAMPLE says. -/
theorem gapsFollowed_newest (older : List Record) (k k' : Tag) (v v' : Half) (a b c a' b' c' : Bool) :
    gapsFollowed (older ++ [.sample k v a b c]) = gapsFollowed (older ++ [.sample k' v' a' b' c']) := by
  induction older using gapsFollowed.induct with
  | case1 | case2 | case3 => rfl
  | case4 _ _ _ _ _ _ _ _ _ rest ih | case5 _ _ _ _ _ rest ih => simpa [gapsFollowed] using ih

theorem gapsFollowed_tail {rs : List Record} (h : gapsFollowed rs = true) : gapsFollowed rs.tail = true := by
  cases rs using gapsFollowed.fun_cases with
  | case1 => rfl
  | case2 | case3 => simp [gapsFollowed] at h
  | case4 | case5 => simpa [gapsFollowed] using h

/-- The oldest records may leave: what follows a GAP stays behind it. -/
theorem gapsFollowed_drop {rs : List Record} (n : Nat) (h : gapsFollowed rs = true) : gapsFollowed (rs.drop n) = true := by
  induction n with
  | zero => exact h
  | succ n ih => simpa [← List.tail_drop] using gapsFollowed_tail ih

section
variable {x y : Lane}

/-- A change of a lane outside the store operation keeps its capacity (R15). -/
theorem Lane.Change.capacity (h : x.Change y) : y.capacity = x.capacity := by
  cases h with
  | same | settings | arm | mark | emptied | clearCounters => rfl
  | retireRecord now => unfold Lane.retireRecord; split <;> rfl
  | retireGap now => unfold Lane.retireGap; split <;> rfl

theorem Lane.Law.retireRecord (h : x.Law) (now : Tag) : (x.retireRecord now).Law := by
  obtain ⟨hcap, hon, hroom, hgap, hfollow⟩ := h
  unfold Lane.retireRecord
  split
  · exact ⟨hcap, hon, by simp only [List.length_tail]; omega, hgap, gapsFollowed_tail hfollow⟩
  · exact ⟨hcap, hon, hroom, hgap, hfollow⟩

theorem Lane.Law.retireGap (h : x.Law) (now : Tag) : (x.retireGap now).Law := by
  obtain ⟨hcap, hon, hroom, hgap, hfollow⟩ := h
  unfold Lane.retireGap
  split
  · exact ⟨hcap, hon, hroom, fun _ => rfl, hfollow⟩
  · exact ⟨hcap, hon, hroom, hgap, hfollow⟩

theorem Lane.Law.change (h : x.Law) (hc : x.Change y) : y.Law := by
  cases hc with
  | same => exact h
  | retireRecord now => exact h.retireRecord now
  | retireGap now => exact h.retireGap now
  | settings on deadband keepalive hplaces =>
    obtain ⟨hcap, -, hroom, hgap, hfollow⟩ := h
    exact ⟨hcap, hplaces, hroom, hgap, hfollow⟩
  | emptied =>
    obtain ⟨hcap, hon, -, -, -⟩ := h
    exact ⟨hcap, hon, Nat.zero_le _, fun _ => rfl, rfl⟩
  | arm | mark | clearCounters => exact h

/-- No store that a lane's step settles breaks the lane's law (R27 to R34). -/
theorem Lane.Law.applyStore (h : x.Law) (now : Tag) (p : Option Nat) (f : Frame) :
    (x.applyStore f (x.storeStep now p f)).Law := by
  obtain ⟨hcap, hon, hroom, hgap, hfollow⟩ := h
  by_cases hc : x.capacity = 0
  · rw [Lane.storeStep_of_no_capacity hc]
    exact ⟨hcap, hon, hroom, hgap, hfollow⟩
  cases hg : x.openGap with
  | some g =>
    rw [Lane.storeStep_of_openGap hc hg]
    split
    · rw [Lane.applyStore, Lane.extendEqual_of_openGap hg]
      exact ⟨hcap, hon, hroom, fun h0 => absurd h0 hc, hfollow⟩
    split
    · rw [Lane.applyStore, Lane.closeGap_of_openGap hg]
      refine ⟨hcap, hon, ?_, fun _ => rfl, gapsFollowed_append (gapsFollowed_drop _ hfollow) rfl⟩
      simp only [List.length_append, List.length_drop, List.length_cons, List.length_nil]
      omega
    · rw [Lane.applyStore, Lane.extendGap_of_openGap hg]
      exact ⟨hcap, hon, hroom, fun h0 => absurd h0 hc, hfollow⟩
  | none =>
    rw [Lane.storeStep_of_no_openGap hc hg]
    split
    next hre =>
      obtain ⟨v, rs, al, ok, hnewest⟩ := (Lane.restatedBy_iff f x).mp hre
      obtain ⟨older, hr⟩ := List.getLast?_eq_some_iff.mp hnewest
      rw [Lane.applyStore, Lane.restate_of_newest hr]
      refine ⟨hcap, hon, ?_, hgap, ?_⟩
      · simpa [hr] using hroom
      · rw [hr] at hfollow
        exact (gapsFollowed_newest ..).trans hfollow
    split
    · exact ⟨hcap, hon, hroom, hgap, hfollow⟩
    split
    · rw [Lane.applyStore, Lane.appendSample_eq]
      refine ⟨hcap, hon, ?_, hgap, gapsFollowed_append (gapsFollowed_drop _ hfollow) rfl⟩
      simp only [List.length_append, List.length_drop, List.length_cons, List.length_nil]
      omega
    · exact ⟨hcap, hon, hroom, fun h0 => absurd h0 hc, hfollow⟩

end

section
variable {s t : State}

/-- The law of the lanes is kept when every lane keeps its own and its capacity. -/
theorem State.LaneLaw.of_lanes (h : s.LaneLaw) (hlaw : ∀ l, (s.lane l).Law → (t.lane l).Law)
    (hcap : ∀ l, (t.lane l).capacity = (s.lane l).capacity) : t.LaneLaw := by
  obtain ⟨hlanes, hsum⟩ := h
  exact ⟨fun l => hlaw l (hlanes l), by simpa only [hcap] using hsum⟩

theorem State.LaneLaw.of_lanes_eq (h : s.LaneLaw) (he : t.lanes = s.lanes) : t.LaneLaw := by
  have hl : ∀ l, t.lane l = s.lane l := fun l => by simp only [State.lane, he]
  exact h.of_lanes (fun l hx => (hl l).symm ▸ hx) fun l => by rw [hl]

/-- The capacities of the lanes but one, for a sum over them all. -/
theorem sum_capacities (s : State) (l : LaneId) : ∃ others : Nat, ∀ x : Lane,
    (allLanes.map fun k => ((s.setLane l x).lane k).capacity).sum = x.capacity + others := by
  obtain ⟨before, after, hsplit⟩ := List.append_of_mem ((by decide : ∀ l : LaneId, l ∈ allLanes) l)
  have hnodup : (before ++ l :: after).Nodup := hsplit ▸ (by decide : allLanes.Nodup)
  have hother : ∀ k ∈ before ++ after, k ≠ l := by
    rintro k hk rfl
    exact (List.nodup_middle.mp hnodup).notMem hk
  refine ⟨((before ++ after).map fun k => (s.lane k).capacity).sum, fun x => ?_⟩
  have hsame : ∀ ks : List LaneId, (∀ k ∈ ks, k ≠ l) →
      (ks.map fun k => ((s.setLane l x).lane k).capacity) = ks.map fun k => (s.lane k).capacity := fun ks hks =>
    List.map_congr_left fun k hk => by rw [State.setLane_lane_other s x (hks k hk)]
  simp only [hsplit, List.map_append, List.map_cons, List.sum_append, List.sum_cons, State.setLane_lane_same,
    hsame before fun k hk => hother k (List.mem_append_left _ hk),
    hsame after fun k hk => hother k (List.mem_append_right _ hk)]
  omega

/-- The capacities after one lane takes a new one (R15). -/
theorem sum_capacities_setLane (s : State) (l : LaneId) (x : Lane) :
    (allLanes.map fun k => ((s.setLane l x).lane k).capacity).sum + (s.lane l).capacity
      = (allLanes.map fun k => (s.lane k).capacity).sum + x.capacity := by
  obtain ⟨others, hsum⟩ := sum_capacities s l
  have hself := hsum (s.lane l)
  rw [State.setLane_self] at hself
  have hx := hsum x
  omega

/-- PARTITION within the pool keeps the law (R15, R167, R168). -/
theorem State.LaneLaw.partition (h : s.LaneLaw) {l : LaneId} {capacity : Nat} (ha : capacityAllowed capacity = true)
    (hoff : (s.lane l).enabled = false) (hroom : capacity ≤ (s.lane l).capacity + s.freePool) :
    (s.onLane l fun x => { x.emptied with capacity := capacity }).LaneLaw := by
  obtain ⟨hlanes, hsum⟩ := h
  refine ⟨fun k => ?_, ?_⟩
  · rw [State.onLane_lane]
    split
    next hk =>
      subst hk
      have hcap : capacity = 0 ∨ 4 ≤ capacity ∧ capacity ≤ 2048 := by
        simpa [capacityAllowed, Config.minCapacity, Config.maxCapacity] using ha
      exact ⟨hcap, fun hon => absurd hon (by simp [Lane.emptied, hoff]), Nat.zero_le _, fun _ => rfl, rfl⟩
    · exact hlanes k
  · have htotal := sum_capacities_setLane s l { (s.lane l).emptied with capacity := capacity }
    rw [State.freePool, Config.recordPlaces] at hroom
    simp only [State.onLane]
    dsimp only at htotal
    omega

theorem laneLaw_reset : State.reset.LaneLaw := by
  have hl : ∀ l, State.reset.lane l = Lane.reset := fun l => by simp [State.reset, State.lane]
  refine ⟨fun l => ?_, ?_⟩
  · rw [hl]; exact ⟨.inl rfl, by decide, by decide, fun _ => rfl, rfl⟩
  · simp only [hl]; decide

theorem State.LaneLaw.tick (h : s.LaneLaw) : s.tick.LaneLaw := by
  refine h.of_lanes (fun l hx => ?_) fun l => ?_
  · rw [State.tick_lane]; exact (hx.retireRecord _).retireGap _
  · rw [State.tick_lane, (Lane.Change.retireGap _).capacity, (Lane.Change.retireRecord _).capacity]

theorem State.LaneLaw.change (hc : s.Change t) (h : s.LaneLaw) : t.LaneLaw := by
  cases hc with
  | pending | release | bookkeep | renew | attach | template | noTemplate | claim | timeBase | link | enqueue =>
    exact h.of_lanes_eq rfl
  | sessionEnd | submit | capture | decide | removeItem | arbitrate => exact h.of_lanes_eq (State.arbitrate_lanes _)
  | lanes v hv =>
    exact h.of_lanes (fun l hx => hx.change (hv l)) fun l => (hv l).capacity
  | partition l capacity ha hoff hroom => exact h.partition ha hoff hroom
  | store f rest =>
    refine h.of_lanes (fun l hx => ?_) fun l => ?_
    · rw [State.store_lane]
      split
      · exact hx.applyStore ..
      · exact hx
    · rw [State.store_lane]
      split
      · exact ((s.lane l).applyStore_settings f _).2.1
      · rfl
  | item =>
    refine h.of_lanes (fun l hx => ?_) fun l => ?_
    · rcases s.completeItem_lane l with e | e <;> rw [e] <;> exact hx
    · rcases s.completeItem_lane l with e | e <;> rw [e]

end

/-! ### The law of the ports -/

/-- What the law of a port looks at. -/
abbrev MasterState.PortLaw (x : MasterState) : Prop :=
  x.frame.lawful = true ∧ 1 ≤ x.watermark ∧ x.watermark ≤ 128

theorem MasterState.PortLaw.bookkeeping {x y : MasterState} (h : x.PortLaw) (hb : x.Bookkeeping y) : y.PortLaw := by
  obtain ⟨hframe, hlow, hhigh⟩ := h
  refine ⟨hb.frame hframe, ?_⟩
  rcases hb.watermark with hw | hw
  · rw [hw]; exact ⟨hlow, hhigh⟩
  · exact hw

/-- A READ ITEMS answer that is cut has as many bytes left (R132). -/
theorem FrameState.lawful_cutReadItems (f : FrameState) : f.cutReadItems.lawful = f.lawful := by
  cases f with
  | deselected | receiving | trailing => rfl
  | answering a => rw [cutReadItems]; cases a.ofReadItems <;> rfl

theorem MasterState.PortLaw.endSession {x : MasterState} (h : x.PortLaw) (why : EndReason) :
    (x.endSession why).PortLaw := by
  obtain ⟨hframe, hlow, hhigh⟩ := h
  exact ⟨(FrameState.lawful_cutReadItems _).trans hframe, hlow, hhigh⟩

theorem MasterState.PortLaw.atTick {x : MasterState} (h : x.PortLaw) (f : Request → Request) :
    (x.onSlots f).countLease.PortLaw := by
  unfold MasterState.countLease
  split
  · exact MasterState.PortLaw.endSession (x := x.onSlots f) h .lease
  · exact h

section
variable {s t : State}

/-- The law of the ports looks at no slot, at no lane and at nothing the engine changes. -/
theorem State.PortLaw.of_master (h : s.PortLaw)
    (he : t.divisor = s.divisor ∧ t.dividerCount = s.dividerCount ∧ t.queue.length ≤ s.queue.length ∧ t.assembly = s.assembly)
    (hm : ∀ m, (s.master m).PortLaw → (t.master m).PortLaw) : t.PortLaw := by
  obtain ⟨h1, h2, h3, h4, h5, hmasters⟩ := h
  obtain ⟨hd, hc, hq, ha⟩ := he
  exact ⟨hd ▸ h1, hd ▸ h2, hd ▸ hc ▸ h3, hq.trans h4, ha ▸ h5, fun m => hm m (hmasters m)⟩

/-- A change of one master. -/
theorem State.PortLaw.onMaster (h : s.PortLaw) (m : Master) (f : MasterState → MasterState)
    (hf : (s.master m).PortLaw → (f (s.master m)).PortLaw) : (s.onMaster m f).PortLaw := by
  refine h.of_master ⟨rfl, rfl, le_rfl, rfl⟩ fun n hn => ?_
  rw [State.onMaster_master]
  split
  next e => subst e; exact hf hn
  · exact hn

theorem State.PortLaw.sameButEngine (h : s.PortLaw) (he : s.SameButEngine t) : t.PortLaw := by
  refine h.of_master ⟨he.divisor, he.dividerCount, he.queue ▸ le_rfl, he.assembly⟩ fun n hn => ?_
  rw [he.2 n]
  exact hn

theorem State.PortLaw.arbitrate (h : s.PortLaw) : s.arbitrate.PortLaw := h.sameButEngine s.arbitrate_frame

theorem State.PortLaw.completeItem (h : s.PortLaw) : s.completeItem.PortLaw := by
  unfold State.completeItem
  split
  · exact h
  next v _ =>
  have hitem : (s.onMaster v.master fun x => { x with items := x.items ++ [v.flight.item] }).PortLaw :=
    h.onMaster _ _ id
  dsimp only
  split
  · have hfree := hitem.onMaster v.master (MasterState.freeSlot v.slot) id
    exact State.PortLaw.arbitrate (hfree.of_master ⟨rfl, rfl, le_rfl, rfl⟩ fun _ => id)
  split
  · exact State.PortLaw.arbitrate (hitem.of_master ⟨rfl, rfl, le_rfl, rfl⟩ fun _ => id)
  · refine State.PortLaw.sameButEngine ?_ (State.boundary_frame ..)
    unfold State.countCorrupt
    split
    · exact hitem.of_master ⟨rfl, rfl, le_rfl, rfl⟩ fun _ => id
    · exact hitem

/-- A store completion raises PRESSURE at most, of the ports (R34). -/
theorem State.PortLaw.store (h : s.PortLaw) {f : Frame} {rest : List Frame} (hq : s.queue = f :: rest) :
    ({ s.storeFrame f with queue := rest } : State).PortLaw := by
  have hrest : rest.length ≤ s.queue.length := by simp [hq]
  unfold State.storeFrame
  dsimp only
  split
  case h_2 =>
    refine h.of_master ⟨rfl, rfl, hrest, rfl⟩ fun m hm => ?_
    rw [State.master_of_masters, State.onMasters_master, MasterState.raisePressure_eq]
    dsimp only
    split <;> exact hm
  all_goals exact h.of_master ⟨rfl, rfl, hrest, rfl⟩ fun _ => id

theorem portLaw_reset : State.reset.PortLaw := by
  have hm : ∀ m, State.reset.master m = MasterState.reset := fun m => by simp [State.reset, State.master]
  refine ⟨by decide, by decide, by decide, by decide, rfl, fun m => ?_⟩
  rw [hm]
  exact ⟨rfl, by decide, by decide⟩

theorem State.PortLaw.tick (h : s.PortLaw) : s.tick.PortLaw := by
  rw [State.tick_eq]
  refine State.PortLaw.arbitrate (h.of_master ⟨rfl, rfl, le_rfl, rfl⟩ fun m hm => ?_)
  rw [State.reacted_master]
  exact hm.atTick _

theorem State.PortLaw.change (hc : s.Change t) (h : s.PortLaw) : t.PortLaw := by
  cases hc with
  | pending | release | claim | lanes => exact h.of_master ⟨rfl, rfl, le_rfl, rfl⟩ fun _ => id
  | partition => exact h.of_master ⟨rfl, rfl, le_rfl, rfl⟩ fun _ => id
  | renew m | attach m | template m | noTemplate m => exact h.onMaster m _ id
  | arbitrate => exact h.arbitrate
  | bookkeep m y hb => exact h.onMaster m (fun _ => y) fun hm => hm.bookkeeping hb
  | submit m | capture m | decide m =>
    exact (h.onMaster m _ id).arbitrate
  | removeItem m y hold hb =>
    exact State.PortLaw.arbitrate (h.onMaster m (fun _ => y) fun hm => MasterState.PortLaw.bookkeeping (x := (s.master m).removeOldest) hm hb)
  | sessionEnd m why y hold hb =>
    rw [State.sessionEnd_master_same] at hb
    have hy : (s.onMaster m fun _ => y).PortLaw := h.onMaster m _ fun hm => (hm.endSession why).bookkeeping hb
    refine State.PortLaw.arbitrate (hy.of_master ⟨rfl, rfl, le_rfl, rfl⟩ fun n hn => ?_)
    by_cases e : n = m
    · subst e; simpa using hn
    · simpa [State.setMaster_master, State.onMaster_master, e, State.sessionEnd_master_other s why e] using hn
  | timeBase src d n level hd =>
    obtain ⟨h1, h2, h3, h4, h5, hmasters⟩ := h
    obtain ⟨hd1, hd2, hd3⟩ := hd ⟨h1, h2, h3⟩
    exact ⟨hd1, hd2, hd3, h4, h5, hmasters⟩
  | link a q framing parity disabled overflow ha =>
    obtain ⟨h1, h2, h3, h4, h5, hmasters⟩ := h
    exact ⟨h1, h2, h3, h4, ha h5, hmasters⟩
  | enqueue f hroom =>
    obtain ⟨h1, h2, h3, h4, h5, hmasters⟩ := h
    exact ⟨h1, h2, h3, by simpa using hroom, h5, hmasters⟩
  | store f rest _ hq =>
    refine State.PortLaw.arbitrate ((h.store hq).of_master ⟨rfl, rfl, le_rfl, rfl⟩ fun m hm => ?_)
    rw [State.testReadiness, State.onMasters_master]
    exact hm
  | item => exact h.completeItem

end

/-! ### The obligations -/

/-- Settles O55: the reset, each change and each tick arrival keep the law of the lanes. -/
theorem everyStepKeepsTheLaneLaw : Obligations.EveryStepKeepsTheLaneLaw := by
  unfold Obligations.EveryStepKeepsTheLaneLaw
  exact fun s t hs h => step_keeps (fun _ => laneLaw_reset.of_lanes_eq rfl) (fun _ _ => State.LaneLaw.change)
    (fun _ _ => State.LaneLaw.tick) hs h

/-- Settles O58: the reset, each change and each tick arrival keep the bounds of the divider, the receiver, the queue and the ports. -/
theorem everyStepKeepsThePortLaw : Obligations.EveryStepKeepsThePortLaw := by
  unfold Obligations.EveryStepKeepsThePortLaw
  exact fun s t hs h => step_keeps (fun _ => portLaw_reset) (fun _ _ => State.PortLaw.change)
    (fun _ _ => State.PortLaw.tick) hs h

end Sys2Proof.Machine
end

section
/-! PROOFS. What the extraction engine does at a selection, at an item boundary and at an arbitration (R97 to R107): in
every case it serves one slot with an item that suits it, sets one aside, or does nothing. -/

namespace Sys2Proof.Machine

/-! ### The items of a search -/

/-- An item counted in items written is neither an OPEN nor a CLOSE (R60). -/
theorem Item.counted_iff (it : Item) : it.counted = true ↔ it.isOpen = false ∧ it.isClose = false := by
  cases it <;> simp [Item.counted, Item.isOpen, Item.isClose]

/-- An item of slot `i` that counts in items written. -/
abbrev Flight.CountsFor (i : SlotId) (f : Flight) : Prop := f.item.slot = i ∧ f.item.counted = true

section
variable {now : Tag} {i : SlotId} {r : Request} {x : Lane} {f : Flight}

theorem corruptItem_countsFor (l : LaneId) (c : Record) (after : Option Resume) :
    Flight.CountsFor i ⟨corruptItem now i r l c, after⟩ := by
  cases c <;> exact ⟨rfl, rfl⟩

theorem leadPhase_countsFor {l : LaneId} (h : leadPhase now i r l x = some f) : f.CountsFor i := by
  unfold leadPhase at h
  dsimp only at h
  split at h
  · exact nomatch h
  · split at h
    · obtain rfl := Option.some.inj h
      split
      · exact ⟨rfl, rfl⟩
      · exact corruptItem_countsFor ..
    · exact nomatch h
  · split at h
    · obtain rfl := Option.some.inj h
      split
      · exact ⟨rfl, rfl⟩
      · exact corruptItem_countsFor ..
    · exact nomatch h

theorem recordItem_countsFor (l : LaneId) (c : Record) (after : Option Resume) :
    Flight.CountsFor i ⟨recordItem now i r l c, after⟩ := by
  unfold recordItem
  split <;> split
  · exact ⟨rfl, rfl⟩
  · exact corruptItem_countsFor ..
  · exact ⟨rfl, rfl⟩
  · exact corruptItem_countsFor ..

theorem recordsPhase_countsFor {l : LaneId} {last : Option Tag} (h : recordsPhase now i r l x last = some f) :
    f.CountsFor i := by
  obtain ⟨c, -, rfl⟩ := Option.map_eq_some_iff.mp h
  exact recordItem_countsFor ..

theorem finishPhase_countsFor {l : LaneId} {last : Option Tag} {b : Bool} (h : finishPhase now i r l x last b = some f) :
    f.CountsFor i := by
  unfold finishPhase at h
  split at h
  · obtain rfl := Option.some.inj h
    exact ⟨rfl, rfl⟩
  · split at h
    · exact nomatch h
    · obtain rfl := Option.some.inj h
      exact ⟨rfl, rfl⟩

theorem searchLane_countsFor {p : Resume} (h : searchLane now i r x p = some f) : f.CountsFor i := by
  rw [searchLane, Option.or_eq_some_iff, Option.or_eq_some_iff] at h
  rcases h with (h | ⟨-, h⟩) | ⟨-, h⟩
  · split at h
    · exact leadPhase_countsFor h
    · exact nomatch h
  · split at h
    · exact nomatch h
    · exact recordsPhase_countsFor h
  · exact finishPhase_countsFor h

/-- Every item a search finds is the slot's and counts in items written (R60, R109). -/
theorem State.search_countsFor {s : State} (h : s.search i r = some f) : f.CountsFor i := by
  rw [State.search, Option.or_eq_some_iff] at h
  rcases h with h | ⟨-, h⟩
  · exact searchLane_countsFor h
  · obtain ⟨l, -, h⟩ := List.exists_of_findSome?_eq_some h
    exact searchLane_countsFor h

end

/-! ### Which request is served, with which item -/

/-- The request `q`, made ACTIVE, and the item `f` are a way on from the request `r` of slot `i`: only an ending and
the resume point are new, and from a lawful request the two are lawful and suit each other. -/
structure Request.GoesOn (r : Request) (i : SlotId) (q : Request) (f : Flight) : Prop where
  same : q = { r with ending := q.ending, resume := q.resume }
  law : r.Law → ({ q with state := .active } : Request).Law
  suits : r.Law → f.Suits i q

/-- A request becomes ACTIVE with its ending and resume point as they are. -/
theorem Request.Law.activated {r : Request} (h : r.Law) : ({ r with state := .active } : Request).Law := by
  obtain ⟨hlow, hhigh, hwithin, -, -, hresume, hopened, -⟩ := h
  exact ⟨hlow, hhigh, hwithin, nofun, nofun, hresume, hopened, nofun⟩

section
variable {s : State} {m : Master} {i : SlotId} {r : Request}

/-- A CLOSE suits a request with the ending it carries (R119). -/
theorem Request.closeFlight_goesOn {e : Ending} (he : r.ending = some e) : r.GoesOn i r (r.closeFlight i e) :=
  ⟨rfl, Request.Law.activated, fun _ => ⟨rfl, nofun, fun _ => ⟨e, he, rfl⟩, nofun⟩⟩

/-- An OPEN suits a request that has not been opened (R108). -/
theorem Request.openFlight_goesOn (ho : r.opened = false) : r.GoesOn i r (r.openFlight i) :=
  ⟨rfl, Request.Law.activated, fun _ => ⟨rfl, fun _ => ho, nofun, nofun⟩⟩

/-- A request that finishes gets its ending, and its CLOSE (R77, R107). -/
theorem Request.finish_goesOn (e : Ending) :
    r.GoesOn i { r with ending := some e, resume := none } (r.closeFlight i e) := by
  refine ⟨rfl, fun h => ?_, fun _ => ⟨rfl, nofun, fun _ => ⟨e, rfl, rfl⟩, nofun⟩⟩
  obtain ⟨hlow, hhigh, hwithin, -, -, -, hopened, -⟩ := h
  exact ⟨hlow, hhigh, hwithin, nofun, nofun, fun _ => rfl, fun ho => ⟨(hopened ho).1, rfl⟩, nofun⟩

/-- Steps 4 to 6 of the decisions serve an opened request (R103, R107). -/
theorem State.nextItem_serves (ho : r.opened = true) :
    ∃ q f, s.nextItem m i r = s.serve m i q f ∧ r.GoesOn i q f := by
  unfold State.nextItem
  split
  · exact ⟨_, _, rfl, r.finish_goesOn .complete⟩
  next f hf =>
  split
  · exact ⟨_, _, rfl, r.finish_goesOn .truncated⟩
  next hbudget =>
    obtain ⟨hslot, hcounted⟩ := State.search_countsFor hf
    obtain ⟨hnotOpen, hnotClose⟩ := f.item.counted_iff.mp hcounted
    refine ⟨r, f, rfl, rfl, Request.Law.activated, fun hlaw => ⟨hslot, ?_, ?_, fun _ => ⟨ho, ?_⟩⟩⟩
    · simp [hnotOpen]
    · simp [hnotClose]
    · obtain ⟨-, -, hwithin, -⟩ := hlaw
      omega

/-- A selection serves the slot it selects (R100). -/
theorem State.select_serves (hr : (s.master m).slot i = some r) :
    ∃ q f, s.select m i = s.serve m i q f ∧ r.GoesOn i q f := by
  simp only [State.select, hr]
  split
  next e he => exact ⟨_, _, rfl, r.closeFlight_goesOn he⟩
  · split
    next ho => exact s.nextItem_serves ho
    next ho => exact ⟨_, _, rfl, r.openFlight_goesOn (by simpa using ho)⟩

/-- An item boundary serves the slot on, where the buffer has room, or sets it aside READY or, with an ending,
CLOSING (R103 to R106). -/
theorem State.boundary_cases (ho : r.opened = true) :
    ((s.master m).hasRoom = true ∧ ∃ q f, s.boundary m i r = s.serve m i q f ∧ r.GoesOn i q f)
      ∨ ∃ st, st ≠ .active ∧ s.boundary m i r = s.setAside m i r st
          ∧ (r.Law → ({ r with state := st } : Request).Law) := by
  unfold State.boundary
  split
  next e he =>
    split
    next hroom => exact .inl ⟨hroom, _, _, rfl, r.closeFlight_goesOn he⟩
    · refine .inr ⟨.closing, by decide, rfl, fun h => ?_⟩
      obtain ⟨hlow, hhigh, hwithin, -, -, hresume, hopened, -⟩ := h
      exact ⟨hlow, hhigh, hwithin, fun _ => by simp [he], nofun, hresume, hopened, nofun⟩
  next he =>
    have hready : r.Law → ({ r with state := .ready } : Request).Law := fun h => by
      obtain ⟨hlow, hhigh, hwithin, -, -, hresume, hopened, -⟩ := h
      exact ⟨hlow, hhigh, hwithin, nofun, fun _ => he, hresume, hopened, nofun⟩
    split
    · exact .inr ⟨.ready, by decide, rfl, hready⟩
    next hroom =>
    split
    · exact .inr ⟨.ready, by decide, rfl, hready⟩
    · exact .inl ⟨by simpa using hroom, s.nextItem_serves ho⟩

/-! ### Arbitration -/

/-- A slot that arbitration grants is eligible (R96, R98). -/
theorem State.eligible_of_pick {c : ReqClass} {p : Master} (h : s.pick c p = some (m, i)) :
    (s.master m).Eligible c i := by
  obtain ⟨n, -, hn⟩ := List.exists_of_findSome?_eq_some h
  obtain ⟨j, hj, hpair⟩ := Option.map_eq_some_iff.mp hn
  obtain ⟨rfl, rfl⟩ := Prod.mk.inj hpair
  exact ((s.master n).eligible_iff c j).mpr ⟨List.mem_of_find?_eq_some hj, List.find?_some hj⟩

/-- Arbitration does nothing while RST is low or a slot is served, does nothing where no slot is eligible, and
else selects an eligible slot (R97, R98). -/
theorem State.arbitrate_cases (s : State) :
    ((s.resetHold = true ∨ s.serving ≠ none) ∧ s.arbitrate = s)
      ∨ (s.serving = none ∧ (∀ m c i, ¬ (s.master m).Eligible c i) ∧ s.arbitrate = s)
      ∨ (s.serving = none ∧ ∃ m c i n u, (s.master m).Eligible c i
          ∧ s.arbitrate = ({ s with normalPtr := n, urgentPtr := u } : State).select m i) := by
  by_cases hbusy : s.resetHold = true ∨ s.serving ≠ none
  · exact .inl ⟨hbusy, s.arbitrate_of_busy (by rwa [Option.isSome_iff_ne_none])⟩
  rw [not_or, Bool.not_eq_true, not_not] at hbusy
  obtain ⟨hold, idle⟩ := hbusy
  right
  cases hu : s.pick .urgent s.urgentPtr with
  | some mi =>
    exact .inr ⟨idle, mi.1, .urgent, mi.2, s.normalPtr, mi.1, State.eligible_of_pick hu,
      State.arbitrate_of_urgent hold idle hu⟩
  | none =>
    cases hn : s.pick .normal s.normalPtr with
    | some mi =>
      exact .inr ⟨idle, mi.1, .normal, mi.2, mi.1, s.urgentPtr, State.eligible_of_pick hn,
        State.arbitrate_of_normal hold idle hu hn⟩
    | none =>
      refine .inl ⟨idle, fun m c i => ?_, State.arbitrate_of_none hold idle hu hn⟩
      cases c with
      | normal => exact State.pick_eq_none_iff.mp hn m i
      | urgent => exact State.pick_eq_none_iff.mp hu m i

end

end Sys2Proof.Machine
end

section
/-! PROOFS. The law of the engine (R59, R60, R94, R95, R97, R101, R121, R124). Its first three clauses are kept up to an
arbitration, and the arbitration brings back the fourth, that an IDLE engine leaves no slot eligible. -/

namespace Sys2Proof.Machine

/-- The law of the engine without its last clause: what holds before an arbitration as well as after it. -/
abbrev State.EngineCore (s : State) : Prop :=
  (∀ m : Master, (s.master m).EngineLaw)
    ∧ (∀ m : Master, ∀ i : SlotId, ∀ r, (s.master m).slot i = some r → r.state = .active →
        ∃ v, s.serving = some v ∧ v.master = m ∧ v.slot = i)
    ∧ (∀ v, s.serving = some v → (s.master v.master).items.length < 128
        ∧ ∃ r, (s.master v.master).slot v.slot = some r ∧ r.state = .active ∧ v.flight.Suits v.slot r)

/-- At most slot `i` of master `m` is ACTIVE. -/
def State.OnlyActive (s : State) (m : Master) (i : SlotId) : Prop :=
  ∀ n j r, (s.master n).slot j = some r → r.state = .active → n = m ∧ j = i

section
variable {s t : State} {m : Master} {i : SlotId} {r q : Request}

theorem State.EngineLaw.core (h : s.EngineLaw) : s.EngineCore := by
  obtain ⟨hm, hactive, hserving, -⟩ := h
  exact ⟨hm, hactive, hserving⟩

theorem State.EngineCore.onlyActive_of_idle (h : s.EngineCore) (idle : s.serving = none) (m : Master) (i : SlotId) :
    s.OnlyActive m i := by
  intro n j r hr ha
  obtain ⟨v, hv, -⟩ := h.2.1 n j r hr ha
  simp [idle] at hv

theorem State.EngineCore.onlyActive_of_serving (h : s.EngineCore) {v : Serving} (hv : s.serving = some v) :
    s.OnlyActive v.master v.slot := by
  intro n j r hr ha
  obtain ⟨w, hw, rfl, rfl⟩ := h.2.1 n j r hr ha
  obtain rfl := Option.some.inj (hv.symm.trans hw)
  exact ⟨rfl, rfl⟩

/-! ### Writing one slot -/

theorem MasterState.EngineLaw.setSlot {x : MasterState} (h : x.EngineLaw) (hi : x.slot i ≠ none) (hq : q.Law) :
    (x.setSlot i (some q)).EngineLaw := by
  obtain ⟨hitems, hnodup, horder, hlaw, htemplate⟩ := h
  refine ⟨hitems, hnodup, fun j => ?_, fun j p hp => ?_, htemplate⟩
  · rw [setSlot_order, setSlot_slot, horder]
    split
    next e => subst e; simpa using hi
    · rfl
  · rw [setSlot_slot] at hp
    split at hp
    · exact Option.some.inj hp ▸ hq
    · exact hlaw j p hp

/-- Any slot of any master after one slot is written. -/
theorem State.slot_onMaster_setSlot (s : State) (m n : Master) (i j : SlotId) (o : Option Request) :
    ((s.onMaster m fun x => x.setSlot i o).master n).slot j
      = if n = m ∧ j = i then o else (s.master n).slot j := by
  rw [State.onMaster_master]
  by_cases hn : n = m
  · by_cases hj : j = i <;> simp [hn, hj, MasterState.setSlot_slot]
  · simp [hn]

/-- The engine begins to serve the one slot that may be ACTIVE. -/
theorem State.engineLaw_serve {f : Flight} (hm : ∀ n, (s.master n).EngineLaw) (hi : (s.master m).slot i ≠ none)
    (honly : s.OnlyActive m i) (hroom : (s.master m).items.length < 128)
    (hq : ({ q with state := .active } : Request).Law) (hf : f.Suits i q) : (s.serve m i q f).EngineLaw := by
  unfold State.serve
  refine ⟨fun n => ?_, fun n j r hr ha => ⟨_, rfl, ?_⟩, fun v hv => ?_, nofun⟩
  · rw [State.master_of_masters, State.onMaster_master]
    split
    next e => subst e; exact (hm n).setSlot hi hq
    · exact hm n
  · rw [State.master_of_masters, State.slot_onMaster_setSlot] at hr
    split at hr
    next e => exact ⟨e.1.symm, e.2.symm⟩
    · obtain ⟨rfl, rfl⟩ := honly n j r hr ha
      exact ⟨rfl, rfl⟩
  · obtain rfl := Option.some.inj hv
    refine ⟨by simpa using hroom, { q with state := .active }, by simp, rfl, hf⟩

/-- The slot that may be ACTIVE is set aside, and the engine is IDLE. -/
theorem State.engineCore_setAside (hm : ∀ n, (s.master n).EngineLaw) (hi : (s.master m).slot i ≠ none)
    (honly : s.OnlyActive m i) (hq : q.Law) (hidle : q.state ≠ .active) :
    ({ s.onMaster m (fun x => x.setSlot i (some q)) with serving := none } : State).EngineCore := by
  refine ⟨fun n => ?_, fun n j r hr ha => ?_, nofun⟩
  · rw [State.master_of_masters, State.onMaster_master]
    split
    next e => subst e; exact (hm n).setSlot hi hq
    · exact hm n
  · rw [State.master_of_masters, State.slot_onMaster_setSlot] at hr
    split at hr
    · exact absurd ha (Option.some.inj hr ▸ hidle)
    next hne => exact absurd (honly n j r hr ha) hne

/-! ### Arbitration restores the law -/

/-- With nothing eligible in the admission orders, nothing is eligible: every live slot stands in one (R59). -/
theorem State.not_eligible (hm : ∀ n, (s.master n).EngineLaw) (h : ∀ m c i, ¬ (s.master m).Eligible c i) (n : Master)
    (j : SlotId) (c : ReqClass) : (s.master n).eligible c j = false := by
  by_contra hc
  rw [Bool.not_eq_false] at hc
  have hlive : (s.master n).slot j ≠ none := fun h0 => by simp [MasterState.eligible, h0] at hc
  obtain ⟨-, -, horder, -⟩ := hm n
  exact h n c j (((s.master n).eligible_iff c j).mpr ⟨(horder j).mpr hlive, hc⟩)

/-- An arbitration brings the law of the engine back (R97). -/
theorem State.EngineCore.arbitrate (h : s.EngineCore) (hold : s.resetHold = false) : s.arbitrate.EngineLaw := by
  obtain ⟨hm, hactive, hserving⟩ := id h
  rcases s.arbitrate_cases with ⟨hbusy, he⟩ | ⟨idle, hnone, he⟩ | ⟨idle, m, c, i, n, u, ⟨hi, hroom, r, hr, -⟩, he⟩
  · rw [he]
    refine ⟨hm, hactive, hserving, fun idle => ?_⟩
    simp [hold, idle] at hbusy
  · rw [he]
    exact ⟨hm, hactive, hserving, fun _ => State.not_eligible hm hnone⟩
  · rw [he]
    obtain ⟨q, f, hselect, hgoes⟩ := State.select_serves (s := { s with normalPtr := n, urgentPtr := u }) (m := m) (i := i) hr
    obtain ⟨-, -, -, hlaw, -⟩ := hm m
    rw [hselect]
    exact State.engineLaw_serve (s := { s with normalPtr := n, urgentPtr := u }) hm (by simp [hr])
      (h.onlyActive_of_idle idle m i) hroom (hgoes.law (hlaw i r hr)) (hgoes.suits (hlaw i r hr))

/-! ### Requests that move on, and masters that are cleared -/

/-- A request that moves on outside the engine: its law, its activity and what suits it are kept. -/
structure Request.Progress (r q : Request) : Prop where
  law : r.Law → q.Law
  active : q.state = .active ↔ r.state = .active
  suits : r.state = .active → ∀ f i, Flight.Suits f i r → f.Suits i q

theorem Request.Progress.refl (r : Request) : r.Progress r := ⟨id, .rfl, fun _ _ _ => id⟩

theorem Request.Progress.trans {r q p : Request} (h : r.Progress q) (k : q.Progress p) : r.Progress p :=
  ⟨fun hr => k.law (h.law hr), k.active.trans h.active, fun ha f i hf => k.suits (h.active.mpr ha) f i (h.suits ha f i hf)⟩

/-- The readiness test makes WAITING requests READY at most (R68). -/
theorem Request.testReadiness_progress (now : Tag) (queue : List Frame) (r : Request) :
    r.Progress (r.testReadiness now queue) := by
  unfold Request.testReadiness
  split
  next h =>
    have hw : r.state = .waiting := by
      rw [Bool.and_eq_true, Bool.and_eq_true, beq_iff_eq] at h
      exact h.1.1
    refine ⟨fun hlaw => ?_, by simp [hw], fun ha => by simp [hw] at ha⟩
    obtain ⟨hlow, hhigh, hwithin, -, hending, hresume, hopened, -⟩ := hlaw
    exact ⟨hlow, hhigh, hwithin, nofun, fun _ => hending (.inl hw), hresume, hopened, nofun⟩
  · exact .refl r

/-- Deciding an ending leaves an ACTIVE slot ACTIVE, with what is in flight for it (R72, R73). -/
theorem Request.decideEnding_progress (e : Ending) (r : Request) : r.Progress (r.decideEnding e) := by
  unfold Request.decideEnding
  split
  · exact .refl r
  next he =>
    refine ⟨fun hlaw => ?_, ?_, fun _ f i hf => ?_⟩
    · obtain ⟨hlow, hhigh, hwithin, -, -, -, hopened, -⟩ := hlaw
      refine ⟨hlow, hhigh, hwithin, nofun, ?_, fun _ => rfl, fun ho => ⟨(hopened ho).1, rfl⟩, ?_⟩
      · dsimp only
        split <;> rintro (h | h) <;> exact nomatch h
      · dsimp only
        split <;> exact nofun
    · by_cases ha : r.state = .active <;> simp [ha]
    · obtain ⟨hslot, hopen, hclose, hcounted⟩ := hf
      refine ⟨hslot, hopen, fun hc => ?_, hcounted⟩
      obtain ⟨e', he', -⟩ := hclose hc
      simp [he] at he'

theorem Request.expire_progress (now : Tag) (r : Request) : r.Progress (r.expire now) := by
  unfold Request.expire
  split
  · exact r.decideEnding_progress .expired
  · exact .refl r

theorem Request.atTick_progress (now : Tag) (queue : List Frame) (r : Request) : r.Progress (r.atTick now queue) :=
  (r.testReadiness_progress now queue).trans (Request.expire_progress ..)

/-- A master whose slots move on, whose buffer keeps within what it held, and whose template keeps its budget. -/
structure MasterState.Progress (x y : MasterState) : Prop where
  items : y.items.length ≤ x.items.length
  order : y.order = x.order
  slots : ∀ i, Option.Rel Request.Progress (x.slot i) (y.slot i)
  template : (∀ t, x.template = some t → 1 ≤ t.budget ∧ t.budget ≤ 4096) →
    ∀ t, y.template = some t → 1 ≤ t.budget ∧ t.budget ≤ 4096

/-- A master with no slot, no template and no item. -/
structure MasterState.Cleared (x : MasterState) : Prop where
  items : x.items = []
  order : x.order = []
  slots : ∀ i, x.slot i = none
  template : x.template = none

theorem Request.progress_rel_refl (o : Option Request) : Option.Rel Request.Progress o o := by
  cases o with
  | none => exact .none
  | some r => exact .some (.refl r)

theorem Request.progress_rel_map {f : Request → Request} (hf : ∀ r : Request, r.Progress (f r)) (o : Option Request) :
    Option.Rel Request.Progress o (o.map f) := by
  cases o with
  | none => exact .none
  | some r => exact .some (hf r)

/-- Slots that are as they were. -/
theorem MasterState.progress_of_slots {x y : MasterState} (hitems : y.items.length ≤ x.items.length)
    (horder : y.order = x.order) (hslots : y.slots = x.slots) (htemplate : y.template = x.template) : x.Progress y :=
  ⟨hitems, horder, fun i => by rw [MasterState.slot, MasterState.slot, hslots]; exact Request.progress_rel_refl _,
    fun h => by rwa [htemplate]⟩

theorem MasterState.onSlots_progress (x : MasterState) {f : Request → Request} (hf : ∀ r : Request, r.Progress (f r)) :
    x.Progress (x.onSlots f) :=
  ⟨le_rfl, rfl, fun i => by rw [onSlots_slot]; exact Request.progress_rel_map hf _, id⟩

theorem MasterState.setSlot_progress (x : MasterState) (hr : x.slot i = some r) (h : r.Progress q) :
    x.Progress (x.setSlot i (some q)) := by
  refine ⟨le_rfl, rfl, fun j => ?_, id⟩
  rw [setSlot_slot]
  split
  next e => subst e; rw [hr]; exact .some h
  · exact Request.progress_rel_refl _

theorem MasterState.endSession_cleared (x : MasterState) (why : EndReason) : (x.endSession why).Cleared :=
  ⟨rfl, rfl, fun i => by simp [endSession, slot], rfl⟩

theorem MasterState.EngineLaw.progress {x y : MasterState} (h : x.EngineLaw) (hp : x.Progress y) : y.EngineLaw := by
  obtain ⟨hitems, hnodup, horder, hlaw, htemplate⟩ := h
  refine ⟨hp.items.trans hitems, hp.order ▸ hnodup, fun i => ?_, fun i q hq => ?_, hp.template htemplate⟩
  · rw [hp.order, horder]
    have hrel := hp.slots i
    revert hrel
    cases x.slot i <;> cases y.slot i <;> intro hrel <;> cases hrel <;> simp
  · have hrel := hp.slots i
    rw [hq] at hrel
    obtain ⟨r, hr, hrq⟩ : ∃ r, x.slot i = some r ∧ r.Progress q := by
      revert hrel
      cases x.slot i with
      | none => exact nofun
      | some r => rintro (⟨h⟩ | _); exact ⟨r, rfl, h⟩
    exact hrq.law (hlaw i r hr)

theorem MasterState.EngineLaw.cleared {x : MasterState} (h : x.Cleared) : x.EngineLaw := by
  refine ⟨by simp [h.items], by simp [h.order], fun i => by simp [h.order, h.slots], fun i r hr => ?_, fun t ht => ?_⟩
  · simp [h.slots] at hr
  · simp [h.template] at ht

/-- A slot that moved on was live before. -/
theorem MasterState.Progress.slot_before {x y : MasterState} (hp : x.Progress y) (hq : y.slot i = some q) :
    ∃ r, x.slot i = some r ∧ r.Progress q := by
  have hrel := hp.slots i
  rw [hq] at hrel
  revert hrel
  cases x.slot i with
  | none => exact nofun
  | some r => rintro (⟨h⟩ | _); exact ⟨r, rfl, h⟩

/-- A live slot that moved on is live. -/
theorem MasterState.Progress.slot_after {x y : MasterState} (hp : x.Progress y) (hr : x.slot i = some r) :
    ∃ q, y.slot i = some q ∧ r.Progress q := by
  have hrel := hp.slots i
  rw [hr] at hrel
  revert hrel
  cases y.slot i with
  | none => exact nofun
  | some q => rintro (⟨h⟩ | _); exact ⟨q, rfl, h⟩

/-- Some masters' sessions end, with the service of theirs, and the others move on. -/
theorem State.EngineCore.move (h : s.EngineCore) (ended : Master → Bool)
    (hserving : t.serving = s.serving.filter fun v => !ended v.master)
    (hcleared : ∀ n, ended n = true → (t.master n).Cleared)
    (hprogress : ∀ n, ended n = false → (s.master n).Progress (t.master n)) : t.EngineCore := by
  obtain ⟨hm, hactive, hserved⟩ := h
  refine ⟨fun n => ?_, fun n i q hq ha => ?_, fun v hv => ?_⟩
  · cases hn : ended n with
    | true => exact .cleared (hcleared n hn)
    | false => exact (hm n).progress (hprogress n hn)
  · cases hn : ended n with
    | true => simp [(hcleared n hn).slots] at hq
    | false =>
      obtain ⟨r, hr, hp⟩ := (hprogress n hn).slot_before hq
      obtain ⟨v, hv, rfl, rfl⟩ := hactive n i r hr (hp.active.mp ha)
      exact ⟨v, by rw [hserving, hv, Option.filter, hn]; rfl, rfl, rfl⟩
  · rw [hserving, Option.filter_eq_some_iff] at hv
    obtain ⟨hv, hn⟩ := hv
    rw [Bool.not_eq_true'] at hn
    obtain ⟨hroom, r, hr, ha, hf⟩ := hserved v hv
    have hgo := hprogress v.master hn
    obtain ⟨q, hq, hp⟩ := hgo.slot_after hr
    exact ⟨hgo.items.trans_lt hroom, q, hq, hp.active.mpr ha, hp.suits ha _ _ hf⟩

/-- No session ends and every master moves on. -/
theorem State.EngineCore.progress (h : s.EngineCore) (hserving : t.serving = s.serving)
    (hprogress : ∀ n, (s.master n).Progress (t.master n)) : t.EngineCore :=
  h.move (fun _ => false) (hserving.trans (filter_const_true _).symm) (fun _ => nofun) fun n _ => hprogress n

/-- One master moves on. -/
theorem State.EngineCore.onMaster (h : s.EngineCore) (m : Master) (f : MasterState → MasterState)
    (hf : (s.master m).Progress (f (s.master m))) : (s.onMaster m f).EngineCore := by
  refine h.progress rfl fun n => ?_
  rw [State.onMaster_master]
  split
  next e => subst e; exact hf
  · exact MasterState.progress_of_slots le_rfl rfl rfl rfl

/-- The law of the engine is kept where slots, orders, buffers and the service are as they were. -/
theorem State.EngineLaw.of_same (h : s.EngineLaw) (hserving : t.serving = s.serving)
    (hslots : ∀ n, (t.master n).slots = (s.master n).slots) (horder : ∀ n, (t.master n).order = (s.master n).order)
    (hitems : ∀ n, (t.master n).items = (s.master n).items)
    (htemplate : ∀ n, (∀ p, (s.master n).template = some p → 1 ≤ p.budget ∧ p.budget ≤ 4096) →
      ∀ p, (t.master n).template = some p → 1 ≤ p.budget ∧ p.budget ≤ 4096) : t.EngineLaw := by
  have hslot : ∀ n i, (t.master n).slot i = (s.master n).slot i := fun n i => by
    simp only [MasterState.slot, hslots]
  obtain ⟨hm, hactive, hserved⟩ := h.core.progress hserving fun n =>
    ⟨(congrArg List.length (hitems n)).le, horder n, fun i => hslot n i ▸ Request.progress_rel_refl _, htemplate n⟩
  refine ⟨hm, hactive, hserved, fun idle n i c => ?_⟩
  obtain ⟨-, -, -, hidle⟩ := h
  rw [MasterState.eligible, MasterState.hasRoom, hitems, hslot]
  exact hidle (hserving ▸ idle) n i c

/-! ### Admission, completion and the changes of a step -/

theorem MasterState.slot_of_firstFree {x : MasterState} (h : x.firstFree = some i) : x.slot i = none := by
  simpa using List.find?_some h

/-- A request as an admission writes it is lawful when its budget is (R67). -/
theorem Request.fresh_law {origin : Origin} {cls : ReqClass} {trigger : Tag} {pre post : Half} {lanes : LaneSet}
    {lead : Bool} {budget : Nat} {label : Byte} (h : 1 ≤ budget ∧ budget ≤ 4096) :
    (Request.fresh origin cls trigger pre post lanes lead budget label).Law :=
  ⟨h.1, h.2, Nat.zero_le _, nofun, fun _ => rfl, fun _ => rfl, fun _ => ⟨rfl, rfl⟩, fun _ => rfl⟩

/-- An admission into a FREE slot keeps the core of the law (R59, R67). -/
theorem State.EngineCore.enterSlot (h : s.EngineCore) (hi : (s.master m).slot i = none) (hr : r.Law)
    (hw : r.state = .waiting) : (s.enterSlot m i r).EngineCore := by
  obtain ⟨hm, hactive, hserved⟩ := h
  have htested := r.testReadiness_progress s.now s.queue
  have hslot : ∀ n j, ((s.enterSlot m i r).master n).slot j
      = if n = m ∧ j = i then some (r.testReadiness s.now s.queue) else (s.master n).slot j :=
    fun n j => by
      rw [← State.slot_onMaster_setSlot, State.enterSlot, State.onMaster_master, State.onMaster_master]
      split <;> rfl
  have hitems : ∀ n, ((s.enterSlot m i r).master n).items = (s.master n).items := fun n => by
    rw [State.enterSlot, State.onMaster_master]; split <;> rfl
  refine ⟨fun n => ?_, fun n j q hq ha => ?_, fun v hv => ?_⟩
  · by_cases hn : n = m
    · subst hn
      obtain ⟨hbuffer, hnodup, horder, hlaw, htemplate⟩ := hm n
      have hnew : ((s.enterSlot n i r).master n).order = (s.master n).order ++ [i] := by simp [State.enterSlot]
      have hnot : i ∉ (s.master n).order := fun hmem => (horder i).mp hmem hi
      refine ⟨hitems n ▸ hbuffer, ?_, fun j => ?_, fun j q hq => ?_, by simpa [State.enterSlot] using htemplate⟩
      · rw [hnew]
        exact hnodup.append (List.nodup_singleton i) (by simpa using hnot)
      · rw [hnew, hslot, List.mem_append, List.mem_singleton, horder]
        by_cases hj : j = i <;> simp [hj]
      · rw [hslot] at hq
        split at hq
        · exact Option.some.inj hq ▸ htested.law hr
        · exact hlaw j q hq
    · rw [State.enterSlot, State.onMaster_master, if_neg hn]
      exact hm n
  · rw [hslot] at hq
    split at hq
    · obtain rfl := Option.some.inj hq
      simp [htested.active, hw] at ha
    · exact hactive n j q hq ha
  · obtain ⟨hroom, q, hq, ha, hf⟩ := hserved v hv
    refine ⟨hitems _ ▸ hroom, q, ?_, ha, hf⟩
    rw [hslot, if_neg]
    · exact hq
    · rintro ⟨he1, he2⟩
      rw [he1, he2, hi] at hq
      exact nomatch hq

/-- The progress of a slot at an item completion is lawful, and leaves the slot opened (R60, R101, R116). -/
theorem Request.itemDone_law {f : Flight} (h : r.Law) (ha : r.state = .active) (hf : f.Suits i r)
    (hc : f.item.isClose = false) : (r.itemDone f).Law ∧ (r.itemDone f).opened = true := by
  obtain ⟨hlow, hhigh, hwithin, -, -, hresume, hopened, -⟩ := h
  obtain ⟨-, hopen, -, hcounted⟩ := hf
  have hafter : (r.itemDone f).opened = true := by
    cases ho : f.item.isOpen with
    | true => simp [Request.itemDone, ho]
    | false => simp [Request.itemDone, (hcounted (f.item.counted_iff.mpr ⟨ho, hc⟩)).1]
  refine ⟨⟨hlow, hhigh, ?_, fun h => ?_, fun h => ?_, fun h => ?_, fun h => ?_, fun _ => ?_⟩, hafter⟩
  · simp only [Request.itemDone]
    split
    next h => exact (hcounted h).2
    · exact hwithin
  · simp [Request.itemDone, ha] at h
  · simp [Request.itemDone, ha] at h
  · have he : r.ending ≠ none := h
    rw [Request.itemDone, if_pos (Option.isSome_iff_ne_none.mpr he)]
    exact hresume he
  · simp [hafter] at h
  · simp_all [Request.itemDone]

/-- The completion of a CLOSE frees its slot (R78). -/
theorem MasterState.EngineLaw.freeSlot {x : MasterState} (h : x.EngineLaw) (i : SlotId) : (x.freeSlot i).EngineLaw := by
  obtain ⟨hitems, hnodup, horder, hlaw, htemplate⟩ := h
  refine ⟨hitems, hnodup.erase i, fun j => ?_, fun j q hq => ?_, htemplate⟩
  · change j ∈ x.order.erase i ↔ (x.setSlot i none).slot j ≠ none
    rw [hnodup.mem_erase_iff, setSlot_slot, horder]
    by_cases hj : j = i <;> simp [hj]
  · change (x.setSlot i none).slot j = some q at hq
    rw [setSlot_slot] at hq
    split at hq
    · exact nomatch hq
    · exact hlaw j q hq

/-- A master's law with one more item in its buffer. -/
theorem MasterState.EngineLaw.append {x : MasterState} (h : x.EngineLaw) (hroom : x.items.length < 128) (it : Item) :
    ({ x with items := x.items ++ [it] } : MasterState).EngineLaw := by
  obtain ⟨-, hnodup, horder, hlaw, htemplate⟩ := h
  exact ⟨by simpa using hroom, hnodup, horder, hlaw, htemplate⟩

@[simp] theorem State.countCorrupt_masters (s : State) (it : Item) : (s.countCorrupt it).masters = s.masters := by
  unfold State.countCorrupt; split <;> rfl
@[simp] theorem State.countCorrupt_resetHold (s : State) (it : Item) : (s.countCorrupt it).resetHold = s.resetHold := by
  unfold State.countCorrupt; split <;> rfl

theorem State.EngineLaw.completeItem (h : s.EngineLaw) (hold : s.resetHold = false) : s.completeItem.EngineLaw := by
  have hcore := h.core
  cases hv : s.serving with
  | none => simpa [State.completeItem, hv] using h
  | some v =>
  obtain ⟨hm, -, hserved⟩ := id hcore
  obtain ⟨hroom, r, hr, ha, hf⟩ := hserved v hv
  have honly := hcore.onlyActive_of_serving hv
  obtain ⟨u, hu⟩ : ∃ u, u = s.onMaster v.master fun x => { x with items := x.items ++ [v.flight.item] } := ⟨_, rfl⟩
  have hum : ∀ n, (u.master n).EngineLaw := fun n => by
    rw [hu, State.onMaster_master]
    split
    next e => subst e; exact (hm _).append hroom _
    · exact hm n
  have huslot : ∀ n j, (u.master n).slot j = (s.master n).slot j := fun n j => by
    rw [hu, State.onMaster_master]; split <;> rfl
  have huonly : u.OnlyActive v.master v.slot := fun n j q hq => honly n j q (huslot n j ▸ hq)
  simp only [State.completeItem, hv, hr, ← hu]
  split
  · -- a CLOSE: its slot becomes FREE, and the only slot that was ACTIVE is gone
    refine State.EngineCore.arbitrate ⟨fun n => ?_, fun n j q hq hact => ?_, nofun⟩ (hu ▸ hold)
    · rw [State.master_of_masters, State.onMaster_master]
      split
      · exact (hum n).freeSlot _
      · exact hum n
    · rw [State.master_of_masters, State.onMaster_master] at hq
      split at hq
      next hn =>
        change ((u.master n).setSlot v.slot none).slot j = some q at hq
        rw [MasterState.setSlot_slot] at hq
        split at hq
        · exact nomatch hq
        next hj => exact absurd (huonly n j q hq hact).2 hj
      next hn => exact absurd (huonly n j q hq hact).1 hn
  next hclose =>
    obtain ⟨-, -, -, hlaw, -⟩ := hm v.master
    obtain ⟨hdone, hopened⟩ := Request.itemDone_law (hlaw v.slot r hr) ha hf (by simpa using hclose)
    obtain ⟨w, hw⟩ : ∃ w, w = u.countCorrupt v.flight.item := ⟨_, rfl⟩
    have hwm : ∀ n, w.master n = u.master n := fun n => by simp [hw, State.master]
    have hlive : (w.master v.master).slot v.slot ≠ none := by rw [hwm, huslot, hr]; simp
    have hwonly : w.OnlyActive v.master v.slot := fun n j q hq => huonly n j q (hwm n ▸ hq)
    have hwlaw : ∀ n, (w.master n).EngineLaw := fun n => hwm n ▸ hum n
    rw [← hw]
    rcases w.boundary_cases hopened with ⟨hfit, q, f, he, hgoes⟩ | ⟨st, hst, he, hset⟩
    · rw [he]
      exact State.engineLaw_serve hwlaw hlive hwonly (by simpa [MasterState.hasRoom] using hfit) (hgoes.law hdone)
        (hgoes.suits hdone)
    · rw [he]
      exact (State.engineCore_setAside hwlaw hlive hwonly (hset hdone) hst).arbitrate (by simpa [hw, hu] using hold)

/-- Bookkeeping of a port leaves the work of its master as it was. -/
theorem MasterState.Bookkeeping.progress {x y : MasterState} (h : x.Bookkeeping y) : x.Progress y := by
  rw [h.same]
  exact MasterState.progress_of_slots le_rfl rfl rfl rfl

theorem MasterState.removeOldest_progress (x : MasterState) : x.Progress x.removeOldest :=
  MasterState.progress_of_slots (by simp [removeOldest]) rfl rfl rfl

theorem MasterState.Progress.trans {x y z : MasterState} (h : x.Progress y) (k : y.Progress z) : x.Progress z := by
  refine ⟨k.items.trans h.items, k.order.trans h.order, fun i => ?_, k.template ∘ h.template⟩
  cases hx : x.slot i with
  | none =>
    cases hz : z.slot i with
    | none => exact .none
    | some q =>
      obtain ⟨p, hp, -⟩ := k.slot_before hz
      obtain ⟨r, hr, -⟩ := h.slot_before hp
      simp [hx] at hr
  | some r =>
    obtain ⟨p, hp, hrp⟩ := h.slot_after hx
    obtain ⟨q, hq, hpq⟩ := k.slot_after hp
    rw [hq]
    exact .some (hrp.trans hpq)

theorem MasterState.raisePressure_progress (l : LaneId) (x : MasterState) : x.Progress (x.raisePressure l) := by
  rw [MasterState.raisePressure_eq]
  dsimp only
  split <;> exact MasterState.progress_of_slots le_rfl rfl rfl rfl

/-- A store completion leaves the service as it is, and raises PRESSURE of the masters at most (R34). -/
theorem State.storeFrame_service (s : State) (f : Frame) :
    (s.storeFrame f).serving = s.serving ∧ (s.storeFrame f).claim = s.claim ∧ (s.storeFrame f).resetHold = s.resetHold
      ∧ ∀ n, (s.storeFrame f).master n = s.master n ∨ (s.storeFrame f).master n = (s.master n).raisePressure f.lane := by
  unfold State.storeFrame
  dsimp only
  split
  case h_2 => exact ⟨rfl, rfl, rfl, fun n => .inr (State.onMasters_master ..)⟩
  all_goals exact ⟨rfl, rfl, rfl, fun n => .inl rfl⟩

theorem engineLaw_reset : State.reset.EngineLaw := by
  have hm : ∀ m, State.reset.master m = MasterState.reset := fun m => by simp [State.reset, State.master]
  have hslot : ∀ i, MasterState.reset.slot i = none := fun i => by simp [MasterState.reset, MasterState.slot]
  refine ⟨fun m => ?_, fun m i r hr => ?_, nofun, fun _ m i c => ?_⟩
  · rw [hm]; exact .cleared ⟨rfl, rfl, hslot, rfl⟩
  · rw [hm, hslot] at hr; exact nomatch hr
  · rw [hm, MasterState.eligible, hslot]; rfl

theorem State.EngineLaw.tick (h : s.EngineLaw) (hold : s.resetHold = false) : s.tick.EngineLaw := by
  rw [State.tick_eq]
  refine (h.core.move (fun n => (s.master n).leaseEnds) rfl (fun n hn => ?_) fun n hn => ?_).arbitrate hold
  · rw [State.reacted_master, MasterState.countLease, MasterState.onSlots_leaseEnds, if_pos hn]
    exact MasterState.endSession_cleared _ _
  · rw [State.reacted_master, MasterState.countLease, MasterState.onSlots_leaseEnds, hn]
    exact (MasterState.onSlots_progress _ (Request.atTick_progress _ _)).trans
      (MasterState.progress_of_slots le_rfl rfl rfl rfl)

theorem State.EngineLaw.change (hc : s.Change t) (h : s.EngineLaw) : t.EngineLaw := by
  have same : ∀ u : State, u.serving = s.serving → u.masters = s.masters → u.EngineLaw := fun u hv hu => by
    have hmaster : ∀ n, u.master n = s.master n := fun n => by simp only [State.master, hu]
    exact h.of_same hv (fun n => by rw [hmaster]) (fun n => by rw [hmaster]) (fun n => by rw [hmaster])
      fun n hp => hmaster n ▸ hp
  have one : ∀ (m : Master) (f : MasterState → MasterState), (f (s.master m)).slots = (s.master m).slots →
      (f (s.master m)).order = (s.master m).order → (f (s.master m)).items = (s.master m).items →
      (∀ p, (f (s.master m)).template = some p → 1 ≤ p.budget ∧ p.budget ≤ 4096) → (s.onMaster m f).EngineLaw := by
    intro m f hslots horder hitems htemplate
    refine h.of_same rfl (fun n => ?_) (fun n => ?_) (fun n => ?_) fun n hp => ?_
    all_goals
      rw [State.onMaster_master]
      split
      next e => subst e; assumption
    · rfl
    · rfl
    · rfl
    · exact hp
  have htemplate : ∀ m p, (s.master m).template = some p → 1 ≤ p.budget ∧ p.budget ≤ 4096 := fun m => by
    obtain ⟨-, -, -, -, htemplate⟩ := h.1 m
    exact htemplate
  cases hc with
  | pending | release | claim | timeBase | link | enqueue | lanes | partition => exact same _ rfl rfl
  | renew m => exact one m _ rfl rfl rfl (htemplate m)
  | attach m => exact one m _ rfl rfl rfl (htemplate m)
  | template m p _ _ hb => exact one m _ rfl rfl rfl fun p' hp' => by obtain rfl := Option.some.inj hp'; exact hb
  | noTemplate m => exact one m _ rfl rfl rfl nofun
  | bookkeep m y hb =>
    have ht : y.template = (s.master m).template := by rw [hb.same]
    exact one m (fun _ => y) (by rw [hb.same]) (by rw [hb.same]) (by rw [hb.same]) fun p hp => htemplate m p (ht ▸ hp)
  | arbitrate hold => exact h.core.arbitrate hold
  | item hold => exact h.completeItem hold
  | decide m i r e hold hr =>
    exact (h.core.onMaster m _ (MasterState.setSlot_progress _ hr (r.decideEnding_progress e))).arbitrate hold
  | removeItem m y hold hb =>
    exact (h.core.onMaster m (fun _ => y) ((MasterState.removeOldest_progress _).trans hb.progress)).arbitrate hold
  | submit m i sess cls trigger pre post lanes lead budget label hold _ hb _ hf =>
    exact (h.core.enterSlot (MasterState.slot_of_firstFree hf) (Request.fresh_law hb) rfl).arbitrate hold
  | capture m i p hold _ hp hf =>
    exact (h.core.enterSlot (MasterState.slot_of_firstFree hf) (Request.fresh_law (htemplate m p hp)) rfl).arbitrate hold
  | sessionEnd m why y hold hb =>
    rw [State.sessionEnd_master_same] at hb
    refine (h.core.move (fun n => n == m) ?_ (fun n hn => ?_) fun n hn => ?_).arbitrate hold
    · simp only [State.setMaster_serving, State.sessionEnd]
      cases s.serving with
      | none => rfl
      | some v => by_cases hv : v.master = m <;> simp [Option.filter, hv]
    · obtain rfl := beq_iff_eq.mp hn
      obtain ⟨hitems, horder, hslots, hnone⟩ := MasterState.endSession_cleared (s.master n) why
      rw [State.setMaster_master_same, hb.same]
      exact ⟨hitems, horder, hslots, hnone⟩
    · have hne : n ≠ m := by simpa using hn
      rw [State.setMaster_master_other _ _ hne, State.sessionEnd_master_other s why hne]
      exact MasterState.progress_of_slots le_rfl rfl rfl rfl
  | store f rest hold =>
    obtain ⟨hserving, -, hhold, hmaster⟩ := s.storeFrame_service f
    refine State.EngineCore.arbitrate (h.core.progress hserving fun n => ?_) (hhold.trans hold)
    rw [State.testReadiness, State.onMasters_master]
    change (s.master n).Progress (((s.storeFrame f).master n).onSlots _)
    refine MasterState.Progress.trans ?_ (MasterState.onSlots_progress _ (Request.testReadiness_progress _ _))
    rcases hmaster n with e | e <;> rw [e]
    · exact MasterState.progress_of_slots le_rfl rfl rfl rfl
    · exact MasterState.raisePressure_progress _ _

end

/-! ### The obligation -/

/-- Settles O57: the reset, each change and each tick arrival keep the law of the engine, those that could make a slot
eligible by the arbitration they end in. -/
theorem everyStepKeepsTheEngineLaw : Obligations.EveryStepKeepsTheEngineLaw := by
  unfold Obligations.EveryStepKeepsTheEngineLaw
  exact fun s t hs h => step_keeps (fun _ => engineLaw_reset) (fun _ _ => State.EngineLaw.change)
    (fun _ hold hu => State.EngineLaw.tick hu hold) hs h

end Sys2Proof.Machine
end

section
/-! PROOFS. The law of the sessions (R79, R87, R93, R133, R145, R158): a detached master holds nothing, and an attached
one what its session declared. -/

namespace Sys2Proof.Machine

section
variable {x y : MasterState} {sess : Session}

theorem MasterState.sessionLaw_of_none (hs : x.session = none) :
    x.SessionLaw ↔ (∀ i : SlotId, x.slot i = none) ∧ x.template = none ∧ x.items = [] ∧ x.reading = none := by
  unfold MasterState.SessionLaw; rw [hs]

theorem MasterState.sessionLaw_of_some (hs : x.session = some sess) :
    x.SessionLaw ↔ 1 ≤ sess.leaseRemaining ∧ sess.leaseRemaining ≤ sess.leaseLength ∧ sess.leaseLength ≤ 1048575
      ∧ (∀ i : SlotId, (x.slot i).all fun r => !lanesRefused r.lanes sess.watchSet)
      ∧ (x.template.all fun t =>
          !lanesRefused t.lanes sess.watchSet && decide (t.lag.toNat + t.pre.toNat ≤ sess.horizon.toNat)) := by
  unfold MasterState.SessionLaw; rw [hs]

theorem MasterState.attached_iff (x : MasterState) : x.attached = true ↔ ∃ sess, x.session = some sess := by
  simp [attached, Option.isSome_iff_exists]

/-- What a change outside the sessions may do to a master: no new slot but with the lanes it had, no item and no READ
ITEMS answer for a detached one. -/
structure MasterState.KeepsDeclared (x y : MasterState) : Prop where
  session : y.session = x.session
  template : y.template = x.template
  slots : ∀ i q, y.slot i = some q → ∃ r, x.slot i = some r ∧ q.lanes = r.lanes
  items : x.session = none → x.items = [] → y.items = []
  reading : x.session = none → x.reading = none → y.reading = none

theorem MasterState.SessionLaw.keepsDeclared (h : x.SessionLaw) (hk : x.KeepsDeclared y) : y.SessionLaw := by
  cases hs : x.session with
  | none =>
    obtain ⟨hslots, htemplate, hitems, hreading⟩ := (sessionLaw_of_none hs).mp h
    refine (sessionLaw_of_none (hk.session.trans hs)).mpr
      ⟨fun i => ?_, hk.template.trans htemplate, hk.items hs hitems, hk.reading hs hreading⟩
    rw [Option.eq_none_iff_forall_ne_some]
    rintro q hq
    obtain ⟨r, hr, -⟩ := hk.slots i q hq
    simp [hslots] at hr
  | some sess =>
    obtain ⟨hlow, hhigh, hlength, hslots, htemplate⟩ := (sessionLaw_of_some hs).mp h
    refine (sessionLaw_of_some (hk.session.trans hs)).mpr
      ⟨hlow, hhigh, hlength, fun i => ?_, by rw [hk.template]; exact htemplate⟩
    cases hq : y.slot i with
    | none => rfl
    | some q =>
      obtain ⟨r, hr, hl⟩ := hk.slots i q hq
      have hin := hslots i
      rw [hr] at hin
      rw [Option.all_some, hl]
      exact hin

/-- Slots that are as they were. -/
theorem MasterState.keepsDeclared_of_slots (hsession : y.session = x.session) (htemplate : y.template = x.template)
    (hslots : y.slots = x.slots) (hitems : x.items = [] → y.items = []) (hreading : x.session = none → x.reading = none → y.reading = none) :
    x.KeepsDeclared y :=
  ⟨hsession, htemplate, fun i q hq => ⟨q, by rw [← hq, MasterState.slot, MasterState.slot, hslots], rfl⟩, fun _ => hitems,
    hreading⟩

theorem MasterState.KeepsDeclared.refl (x : MasterState) : x.KeepsDeclared x :=
  keepsDeclared_of_slots rfl rfl rfl id fun _ => id

theorem MasterState.KeepsDeclared.trans {z : MasterState} (h : x.KeepsDeclared y) (k : y.KeepsDeclared z) :
    x.KeepsDeclared z := by
  refine ⟨k.session.trans h.session, k.template.trans h.template, fun i q hq => ?_,
    fun hs hi => k.items (h.session.trans hs) (h.items hs hi), fun hs hr => k.reading (h.session.trans hs) (h.reading hs hr)⟩
  obtain ⟨p, hp, hqp⟩ := k.slots i q hq
  obtain ⟨r, hr, hpr⟩ := h.slots i p hp
  exact ⟨r, hr, hqp.trans hpr⟩

theorem MasterState.Bookkeeping.keepsDeclared (h : x.Bookkeeping y) : x.KeepsDeclared y :=
  keepsDeclared_of_slots (by rw [h.same]) (by rw [h.same]) (by rw [h.same]) (by rw [h.same]; exact id) h.reading

theorem MasterState.setSlot_keepsDeclared {i : SlotId} {r q : Request} (hr : x.slot i = some r) (hl : q.lanes = r.lanes) :
    x.KeepsDeclared (x.setSlot i (some q)) := by
  refine ⟨rfl, rfl, fun j p hp => ?_, fun _ => id, fun _ => id⟩
  rw [setSlot_slot] at hp
  split at hp
  next e => obtain rfl := Option.some.inj hp; exact ⟨r, e ▸ hr, hl⟩
  · exact ⟨p, hp, rfl⟩

theorem MasterState.onSlots_keepsDeclared {f : Request → Request} (hf : ∀ r : Request, (f r).lanes = r.lanes) :
    x.KeepsDeclared (x.onSlots f) := by
  refine ⟨rfl, rfl, fun j p hp => ?_, fun _ => id, fun _ => id⟩
  rw [onSlots_slot, Option.map_eq_some_iff] at hp
  obtain ⟨r, hr, rfl⟩ := hp
  exact ⟨r, hr, hf r⟩

theorem MasterState.freeSlot_keepsDeclared (i : SlotId) : x.KeepsDeclared (x.freeSlot i) := by
  refine ⟨rfl, rfl, fun j p hp => ?_, fun _ => id, fun _ => id⟩
  change (x.setSlot i none).slot j = some p at hp
  rw [setSlot_slot] at hp
  split at hp
  · exact nomatch hp
  · exact ⟨p, hp, rfl⟩

theorem MasterState.removeOldest_keepsDeclared (x : MasterState) : x.KeepsDeclared x.removeOldest :=
  keepsDeclared_of_slots rfl rfl rfl (fun h => by simp [removeOldest, h]) fun _ h => by simp [removeOldest, h]

theorem MasterState.raisePressure_keepsDeclared (l : LaneId) (x : MasterState) : x.KeepsDeclared (x.raisePressure l) := by
  rw [raisePressure_eq]
  dsimp only
  split <;> exact keepsDeclared_of_slots rfl rfl rfl id fun _ => id

/-- A session end leaves a detached master that holds nothing (R79, R93, R132). -/
theorem MasterState.endSession_sessionLaw (x : MasterState) (why : EndReason) : (x.endSession why).SessionLaw :=
  (sessionLaw_of_none rfl).mpr ⟨fun i => by simp [endSession, slot], rfl, rfl, rfl⟩

theorem MasterState.SessionLaw.renewLease (h : x.SessionLaw) : x.renewLease.SessionLaw := by
  cases hs : x.session with
  | none =>
    have hr : x.renewLease.session = none := by simp [MasterState.renewLease, hs]
    exact (sessionLaw_of_none hr).mpr ((sessionLaw_of_none hs).mp h)
  | some sess =>
    have hr : x.renewLease.session = some { sess with leaseRemaining := sess.leaseLength } := by
      simp [MasterState.renewLease, hs]
    obtain ⟨hlow, hhigh, hrest⟩ := (sessionLaw_of_some hs).mp h
    exact (sessionLaw_of_some hr).mpr ⟨hlow.trans hhigh, le_rfl, hrest⟩

theorem MasterState.SessionLaw.countLease (h : x.SessionLaw) : x.countLease.SessionLaw := by
  unfold MasterState.countLease
  split
  · exact x.endSession_sessionLaw .lease
  next hend =>
  cases hs : x.session with
  | none => exact (sessionLaw_of_none (by rfl)).mpr ((sessionLaw_of_none hs).mp h)
  | some sess =>
    obtain ⟨hlow, hhigh, hrest⟩ := (sessionLaw_of_some hs).mp h
    have hmore : ¬ sess.leaseRemaining ≤ 1 := by simpa [MasterState.leaseEnds, hs] using hend
    exact (sessionLaw_of_some (sess := { sess with leaseRemaining := sess.leaseRemaining - 1 }) (by rfl)).mpr
      ⟨by dsimp only; omega, by dsimp only; omega, hrest⟩

/-- A live slot belongs to an attached master (R79). -/
theorem MasterState.SessionLaw.attached_of_slot (h : x.SessionLaw) {i : SlotId} {r : Request} (hr : x.slot i = some r) :
    x.attached = true := by
  cases hs : x.session with
  | none => simp [((sessionLaw_of_none hs).mp h).1] at hr
  | some sess => simp [attached, hs]

/-- A request within the declared watch set may be written into a slot (R63, R67). -/
theorem MasterState.SessionLaw.setSlot (h : x.SessionLaw) (hs : x.session = some sess) {q : Request}
    (hl : lanesRefused q.lanes sess.watchSet = false) (i : SlotId) (order : List SlotId) :
    ({ x.setSlot i (some q) with order := order } : MasterState).SessionLaw := by
  obtain ⟨hlow, hhigh, hlength, hslots, htemplate⟩ := (sessionLaw_of_some hs).mp h
  refine (sessionLaw_of_some (by exact hs)).mpr ⟨hlow, hhigh, hlength, fun j => ?_, htemplate⟩
  change ((x.setSlot i (some q)).slot j).all _
  rw [setSlot_slot]
  split
  · simp [hl]
  · exact hslots j

end

@[simp] theorem Request.testReadiness_lanes (now : Tag) (queue : List Frame) (r : Request) :
    (r.testReadiness now queue).lanes = r.lanes := by
  unfold Request.testReadiness; split <;> rfl

@[simp] theorem Request.decideEnding_lanes (e : Ending) (r : Request) : (r.decideEnding e).lanes = r.lanes := by
  unfold Request.decideEnding; split <;> rfl

@[simp] theorem Request.atTick_lanes (now : Tag) (queue : List Frame) (r : Request) : (r.atTick now queue).lanes = r.lanes := by
  unfold Request.atTick Request.expire; split <;> simp

section
variable {s t : State} {m : Master} {i : SlotId}

/-- The law of the sessions where no session begins or ends, by what each master keeps. -/
theorem State.SessionLaw.of_masters (h : s.SessionLaw) (hclaim : t.claim = s.claim)
    (hserving : ∀ v, t.serving = some v → s.serving = some v ∨ (s.master v.master).attached = true)
    (hm : ∀ n, (s.master n).SessionLaw → (t.master n).SessionLaw ∧ (t.master n).attached = (s.master n).attached) :
    t.SessionLaw := by
  obtain ⟨hmasters, hholder, hserved⟩ := h
  refine ⟨fun n => (hm n (hmasters n)).1, fun n hn => ?_, fun n hn => ?_⟩
  · rw [(hm n (hmasters n)).2]
    exact hholder n (hclaim ▸ hn)
  · obtain ⟨v, hv, rfl⟩ := Option.map_eq_some_iff.mp hn
    rw [(hm _ (hmasters _)).2]
    rcases hserving v hv with hsame | hattached
    · exact hserved _ (by rw [hsame]; rfl)
    · exact hattached

theorem MasterState.KeepsDeclared.law {x y : MasterState} (hk : x.KeepsDeclared y) (h : x.SessionLaw) :
    y.SessionLaw ∧ y.attached = x.attached :=
  ⟨h.keepsDeclared hk, by rw [MasterState.attached, MasterState.attached, hk.session]⟩

/-- A change of one master that keeps what its session declared. -/
theorem State.SessionLaw.onMaster (h : s.SessionLaw) (m : Master) (f : MasterState → MasterState)
    (hf : (s.master m).SessionLaw → (f (s.master m)).SessionLaw ∧ (f (s.master m)).attached = (s.master m).attached) :
    (s.onMaster m f).SessionLaw := by
  refine h.of_masters rfl (fun v hv => .inl hv) fun n hn => ?_
  rw [State.onMaster_master]
  split
  next e => subst e; exact hf hn
  · exact ⟨hn, rfl⟩

/-- The engine serves a live slot with the lanes it has. -/
theorem State.SessionLaw.serve (h : s.SessionLaw) {r q : Request} (hr : (s.master m).slot i = some r)
    (hl : q.lanes = r.lanes) (f : Flight) : (s.serve m i q f).SessionLaw := by
  have hslot := h.onMaster m (fun x => x.setSlot i (some { q with state := .active })) 
    (MasterState.setSlot_keepsDeclared (q := { q with state := .active }) hr hl).law
  refine hslot.of_masters rfl (fun v hv => .inr ?_) fun n hn => ⟨hn, rfl⟩
  obtain rfl := Option.some.inj hv
  rw [State.onMaster_master_same]
  exact (h.1 m).attached_of_slot hr

theorem State.SessionLaw.arbitrate (h : s.SessionLaw) : s.arbitrate.SessionLaw := by
  rcases s.arbitrate_cases with ⟨-, he⟩ | ⟨-, -, he⟩ | ⟨-, m, c, i, n, u, ⟨-, -, r, hr, -⟩, he⟩
  · rw [he]; exact h
  · rw [he]; exact h
  · obtain ⟨q, f, hselect, hgoes⟩ := State.select_serves (s := { s with normalPtr := n, urgentPtr := u }) (m := m) (i := i) hr
    rw [he, hselect]
    exact State.SessionLaw.serve (s := { s with normalPtr := n, urgentPtr := u }) h hr (by rw [hgoes.same]) f

/-- The session of a master ends, with its service and its claim, and what is kept of the port moves (R152). -/
theorem State.SessionLaw.sessionEnd (h : s.SessionLaw) (m : Master) (why : EndReason) {y : MasterState}
    (hy : ((s.master m).endSession why).Bookkeeping y) : ((s.sessionEnd m why).setMaster m y).SessionLaw := by
  obtain ⟨hmasters, hholder, hserved⟩ := h
  have hother : ∀ n, n ≠ m → ((s.sessionEnd m why).setMaster m y).master n = s.master n := fun n hn => by
    rw [State.setMaster_master_other _ _ hn, State.sessionEnd_master_other s why hn]
  refine ⟨fun n => ?_, fun n hn => ?_, fun n hn => ?_⟩
  · by_cases e : n = m
    · subst e
      rw [State.setMaster_master_same]
      exact (hy.keepsDeclared.law (MasterState.endSession_sessionLaw _ why)).1
    · rw [hother n e]; exact hmasters n
  · have hn' : (if s.claim = some m then none else s.claim) = some n := hn
    split at hn'
    · exact nomatch hn'
    next hc =>
      have e : n ≠ m := by rintro rfl; exact hc hn'
      rw [hother n e]; exact hholder n hn'
  · obtain ⟨v, hv, rfl⟩ := Option.map_eq_some_iff.mp hn
    have hv' : (if s.serving.any (fun v => v.master == m) then none else s.serving) = some v := hv
    split at hv'
    · exact nomatch hv'
    next hc =>
      have e : v.master ≠ m := by rw [hv'] at hc; simpa using hc
      rw [hother _ e]; exact hserved _ (by rw [hv']; rfl)

/-- An admission within the declared watch set (R63, R67). -/
theorem State.SessionLaw.enterSlot (h : s.SessionLaw) {sess : Session} (hs : (s.master m).session = some sess) {r : Request}
    (hl : lanesRefused r.lanes sess.watchSet = false) : (s.enterSlot m i r).SessionLaw :=
  h.onMaster m _ fun hm => ⟨MasterState.SessionLaw.setSlot hm hs (by simpa using hl) i _, rfl⟩

/-- The reactions to a tick count every lease, and end the sessions whose leases run out (R150). -/
theorem State.SessionLaw.reacted (h : s.SessionLaw) : s.reacted.SessionLaw := by
  obtain ⟨hmasters, hholder, hserved⟩ := h
  have hattached : ∀ n, (s.master n).attached = true → (s.master n).leaseEnds = false →
      (s.reacted.master n).attached = true := fun n ha hend => by
    rw [State.reacted_master, MasterState.countLease, MasterState.onSlots_leaseEnds, hend]
    simpa [MasterState.attached] using ha
  refine ⟨fun n => ?_, fun n hn => ?_, fun n hn => ?_⟩
  · rw [State.reacted_master]
    exact ((hmasters n).keepsDeclared (MasterState.onSlots_keepsDeclared (Request.atTick_lanes _ _))).countLease
  · obtain ⟨hclaim, hend⟩ := Option.filter_eq_some_iff.mp hn
    exact hattached n (hholder n hclaim) (by simpa using hend)
  · obtain ⟨v, hv, rfl⟩ := Option.map_eq_some_iff.mp hn
    obtain ⟨hserving, hend⟩ := Option.filter_eq_some_iff.mp hv
    exact hattached _ (hserved _ (by rw [hserving]; rfl)) (by simpa using hend)

theorem Request.itemDone_lanes (f : Flight) (r : Request) : (r.itemDone f).lanes = r.lanes := rfl

/-- An item boundary serves the slot on or sets it aside (R103). -/
theorem State.SessionLaw.boundary (h : s.SessionLaw) {r q : Request} (hr : (s.master m).slot i = some r)
    (hl : q.lanes = r.lanes) : (s.boundary m i q).SessionLaw := by
  have haside : ∀ st, (s.setAside m i q st).SessionLaw := fun st => by
    have hslot := h.onMaster m (fun x => x.setSlot i (some { q with state := st }))
      (MasterState.setSlot_keepsDeclared (q := { q with state := st }) hr hl).law
    exact State.SessionLaw.arbitrate (hslot.of_masters rfl (fun _ => nofun) fun n hn => ⟨hn, rfl⟩)
  have hserve : ∀ p f, p.lanes = q.lanes → (s.serve m i p f).SessionLaw := fun p f hp => h.serve hr (hp.trans hl) f
  unfold State.boundary
  split
  · split
    · exact hserve _ _ rfl
    · exact haside _
  · split
    · exact haside _
    split
    · exact haside _
    unfold State.nextItem
    split
    · exact hserve _ _ rfl
    split
    · exact hserve _ _ rfl
    · exact hserve _ _ rfl

theorem State.SessionLaw.completeItem (h : s.SessionLaw) : s.completeItem.SessionLaw := by
  cases hv : s.serving with
  | none => simpa [State.completeItem, hv] using h
  | some v =>
  have hattached : (s.master v.master).attached = true := h.2.2 _ (by rw [hv]; rfl)
  have happend : (s.master v.master).KeepsDeclared
      { s.master v.master with items := (s.master v.master).items ++ [v.flight.item] } :=
    ⟨rfl, rfl, fun i q hq => ⟨q, hq, rfl⟩, fun hs => by simp [MasterState.attached, hs] at hattached, fun _ => id⟩
  obtain ⟨u, hu⟩ : ∃ u, u = s.onMaster v.master fun x => { x with items := x.items ++ [v.flight.item] } := ⟨_, rfl⟩
  have hul : u.SessionLaw := hu ▸ h.onMaster v.master _ happend.law
  have huslot : (u.master v.master).slot v.slot = (s.master v.master).slot v.slot := by
    rw [hu, State.onMaster_master_same]; rfl
  simp only [State.completeItem, hv, ← hu]
  split
  · have hfree := hul.onMaster v.master _ (MasterState.freeSlot_keepsDeclared v.slot).law
    exact State.SessionLaw.arbitrate (hfree.of_masters rfl (fun _ => nofun) fun n hn => ⟨hn, rfl⟩)
  next hclose =>
  split
  · exact State.SessionLaw.arbitrate (hul.of_masters rfl (fun _ => nofun) fun n hn => ⟨hn, rfl⟩)
  next r hr =>
    obtain ⟨w, hw⟩ : ∃ w, w = u.countCorrupt v.flight.item := ⟨_, rfl⟩
    have hwm : ∀ n, w.master n = u.master n := fun n => by simp [hw, State.master]
    have hclaimed : w.claim = u.claim ∧ w.serving = u.serving := by
      rw [hw]; unfold State.countCorrupt; split <;> exact ⟨rfl, rfl⟩
    have hwl : w.SessionLaw := hul.of_masters hclaimed.1 (fun x hx => .inl (hclaimed.2 ▸ hx)) fun n hn => by
      rw [hwm]; exact ⟨hn, rfl⟩
    have hwslot : (w.master v.master).slot v.slot = some r := by rw [hwm, huslot, hr]
    rw [← hw]
    exact hwl.boundary hwslot (r.itemDone_lanes v.flight)

theorem sessionLaw_reset : State.reset.SessionLaw := by
  have hm : ∀ m, State.reset.master m = MasterState.reset := fun m => by simp [State.reset, State.master]
  refine ⟨fun m => ?_, nofun, nofun⟩
  rw [hm]
  exact (MasterState.sessionLaw_of_none rfl).mpr ⟨fun i => by simp [MasterState.reset, MasterState.slot], rfl, rfl, rfl⟩

/-- A session as ATTACH opens it, on a port that held nothing (R146). -/
theorem MasterState.SessionLaw.attach {x : MasterState} (h : x.SessionLaw) (hs : x.session = none) (horizon : Half)
    (watchSet : LaneSet) {lease : Nat} (h1 : 1 ≤ lease) (h2 : lease ≤ 1048575) :
    ({ x with session := some ⟨horizon, watchSet, lease, lease⟩ } : MasterState).SessionLaw := by
  obtain ⟨hslots, htemplate, -, -⟩ := (MasterState.sessionLaw_of_none hs).mp h
  refine (MasterState.sessionLaw_of_some (by rfl)).mpr ⟨h1, le_rfl, h2, fun i => ?_, ?_⟩
  · change (x.slot i).all _
    rw [hslots]; rfl
  · change x.template.all _
    rw [htemplate]; rfl

/-- A template within what the session declared may be stored (R85, R87). -/
theorem MasterState.SessionLaw.setTemplate {x : MasterState} (h : x.SessionLaw) {sess : Session} (hs : x.session = some sess)
    {t : Option Template} (ht : (t.all fun p =>
      !lanesRefused p.lanes sess.watchSet && decide (p.lag.toNat + p.pre.toNat ≤ sess.horizon.toNat)) = true) :
    ({ x with template := t } : MasterState).SessionLaw := by
  obtain ⟨hlow, hhigh, hlength, hslots, -⟩ := (MasterState.sessionLaw_of_some hs).mp h
  exact (MasterState.sessionLaw_of_some (by exact hs)).mpr ⟨hlow, hhigh, hlength, hslots, ht⟩

/-- No template is within what any session declared. -/
theorem MasterState.SessionLaw.noTemplate {x : MasterState} (h : x.SessionLaw) :
    ({ x with template := none } : MasterState).SessionLaw := by
  rcases Option.eq_none_or_eq_some x.session with hs | ⟨sess, hs⟩
  · obtain ⟨hslots, -, hitems, hreading⟩ := (MasterState.sessionLaw_of_none hs).mp h
    exact (MasterState.sessionLaw_of_none (x := { x with template := none }) hs).mpr ⟨hslots, rfl, hitems, hreading⟩
  · exact h.setTemplate (t := none) hs rfl

/-- What a template's request names was checked when the template was stored (R85, R89). -/
theorem MasterState.SessionLaw.template_lanes {x : MasterState} (h : x.SessionLaw) {sess : Session}
    (hs : x.session = some sess) {p : Template} (hp : x.template = some p) : lanesRefused p.lanes sess.watchSet = false := by
  obtain ⟨-, -, -, -, htemplate⟩ := (MasterState.sessionLaw_of_some hs).mp h
  rw [hp, Option.all_some, Bool.and_eq_true] at htemplate
  simpa using htemplate.1

theorem State.SessionLaw.change (hc : s.Change t) (h : s.SessionLaw) : t.SessionLaw := by
  cases hc with
  | pending | release | timeBase | link | enqueue | lanes | partition =>
    exact h.of_masters rfl (fun _ hv => .inl hv) fun _ hn => ⟨hn, rfl⟩
  | bookkeep m y hb => exact h.onMaster m (fun _ => y) hb.keepsDeclared.law
  | renew m =>
    exact h.onMaster m _ fun hm => ⟨hm.renewLease, by simp [MasterState.attached, MasterState.renewLease]⟩
  | attach m horizon watchSet lease hs h1 h2 =>
    obtain ⟨hmasters, hholder, hserved⟩ := h
    have hkept : ∀ n, (s.master n).attached = true → ((s.onMaster m fun x =>
        { x with session := some ⟨horizon, watchSet, lease, lease⟩ }).master n).attached = true := fun n hn => by
      rw [State.onMaster_master]
      split
      · rfl
      · exact hn
    refine ⟨fun n => ?_, fun n hn => hkept n (hholder n hn), fun n hn => hkept n (hserved n hn)⟩
    rw [State.onMaster_master]
    split
    next e => subst e; exact (hmasters n).attach hs horizon watchSet h1 h2
    · exact hmasters n
  | sessionEnd m why y hold hb =>
    rw [State.sessionEnd_master_same] at hb
    exact (h.sessionEnd m why hb).arbitrate
  | template m p sess hs _ hl hh =>
    exact h.onMaster m _ fun hm => ⟨hm.setTemplate hs (by simp [hl, hh]), rfl⟩
  | noTemplate m => exact h.onMaster m _ fun hm => ⟨hm.noTemplate, rfl⟩
  | submit m i sess cls trigger pre post lanes lead budget label _ hs _ hl =>
    exact (h.enterSlot hs hl).arbitrate
  | capture m i p _ ha hp =>
    obtain ⟨sess, hs⟩ := (MasterState.attached_iff _).mp ha
    exact (h.enterSlot hs ((h.1 m).template_lanes hs hp)).arbitrate
  | decide m i r e _ hr =>
    exact (h.onMaster m _ (MasterState.setSlot_keepsDeclared hr (r.decideEnding_lanes e)).law).arbitrate
  | removeItem m y _ hb =>
    exact (h.onMaster m (fun _ => y) ((MasterState.removeOldest_keepsDeclared _).trans hb.keepsDeclared).law).arbitrate
  | claim holder ha =>
    obtain ⟨hmasters, -, hserved⟩ := h
    exact ⟨hmasters, ha, hserved⟩
  | store f rest =>
    obtain ⟨hserving, hclaim, -, hmaster⟩ := s.storeFrame_service f
    refine State.SessionLaw.arbitrate (h.of_masters hclaim (fun v hv => .inl (hserving ▸ hv)) fun n hn => ?_)
    refine MasterState.KeepsDeclared.law ?_ hn
    rw [State.testReadiness, State.onMasters_master]
    change (s.master n).KeepsDeclared (((s.storeFrame f).master n).onSlots _)
    refine MasterState.KeepsDeclared.trans ?_ (MasterState.onSlots_keepsDeclared (Request.testReadiness_lanes _ _))
    rcases hmaster n with e | e <;> rw [e]
    · exact .refl _
    · exact MasterState.raisePressure_keepsDeclared _ _
  | item => exact h.completeItem
  | arbitrate => exact h.arbitrate

end

/-! ### The obligations -/

/-- Settles O56: the reset, each change and each tick arrival keep the law of the sessions. -/
theorem everyStepKeepsTheSessionLaw : Obligations.EveryStepKeepsTheSessionLaw := by
  unfold Obligations.EveryStepKeepsTheSessionLaw
  refine fun s t hs h => step_keeps (fun _ => sessionLaw_reset) (fun _ _ => State.SessionLaw.change) (fun u _ hu => ?_) hs h
  rw [State.tick_eq]
  exact hu.reacted.arbitrate

/-- Settles O60: at reset every lane, master and port is empty. -/
theorem theLawsHoldAtReset : Obligations.TheLawsHoldAtReset := by
  unfold Obligations.TheLawsHoldAtReset
  exact ⟨laneLaw_reset, sessionLaw_reset, engineLaw_reset, portLaw_reset⟩

end Sys2Proof.Machine
end

section
/-! PROOFS. The rows of events while RST is released, the steps that pass time, the reactions as rows of their own, and the
reset. -/

namespace Sys2Proof.Machine

/-! ### Rows of events while RST is released -/

section
variable {s : State} {m : Master} (hold : s.resetHold = false)
include hold

theorem next_unlessHeld (f : State → State) :
    Host.Outcome.next (φ := Fault) (ρ := Refusal) (s.unlessHeld f) = .next (f s) :=
  congrArg _ (State.unlessHeld_of_released s hold)

theorem exec_tickArrival : exec .tickArrival s = .next (s.seeTick .high) := next_unlessHeld hold _
theorem exec_tickLevelChange (level : Level) : exec (.tickLevelChange level) s = .next (s.seeTick level) :=
  next_unlessHeld hold _
theorem exec_dividerExpiry : exec .dividerExpiry s = .next s.dividerReachesDivisor := next_unlessHeld hold _
theorem exec_leaseExpiry : exec (.leaseExpiry m) s = .next
    (if (s.master m).attached && decide ((s.master m).leaseRemaining ≤ 1) then (s.sessionEnd m .lease).arbitrate else s) :=
  next_unlessHeld hold _
theorem exec_recordRetirement (l : LaneId) : exec (.recordRetirement l) s = .next (s.onLane l (Lane.retireRecord s.now)) :=
  next_unlessHeld hold _
theorem exec_openGapRetirement (l : LaneId) : exec (.openGapRetirement l) s = .next (s.onLane l (Lane.retireGap s.now)) :=
  next_unlessHeld hold _
theorem exec_captureEdge : exec (.captureEdge m) s = .next (s.seeCap m .high) := next_unlessHeld hold _
theorem exec_capFallingEdge : exec (.capFallingEdge m) s = .next (s.seeCap m .low) := next_unlessHeld hold _
theorem exec_frameStart (d : Bool) : exec (.frameStart d) s = .next (s.qclkEdge .high d) := next_unlessHeld hold _
theorem exec_partialFrameDiscard (d : Bool) : exec (.partialFrameDiscard d) s = .next (s.qclkEdge .high d) :=
  next_unlessHeld hold _
theorem exec_linkBitSampled (q : Level) (d : Bool) : exec (.linkBitSampled q d) s = .next (s.qclkEdge q d) :=
  next_unlessHeld hold _
theorem exec_sampleFrameArrival (q : Level) (f : BitVec 22) : exec (.sampleFrameArrival q f) s = .next
    (if s.canComplete q f then ({ s with assembly := .idle, qsynLevel := q } : State).frameArrives f else s) :=
  next_unlessHeld hold _
theorem exec_itemCompletion : exec .itemCompletion s = .next s.completeItem := next_unlessHeld hold _
theorem exec_selectionBegin : exec (.selectionBegin m) s = .next (s.beginSelection m) := next_unlessHeld hold _
theorem exec_selectionEnd : exec (.selectionEnd m) s = .next (s.endSelection m) := next_unlessHeld hold _
theorem exec_itemRemoval : exec (.itemRemoval m) s = .next (s.finishGroup m) := next_unlessHeld hold _
theorem exec_byteReceived (b : Byte) : exec (.byteReceived m b) s = .next (s.receiveByte m b) := next_unlessHeld hold _
theorem exec_answerByteShifted : exec (.answerByteShifted m) s = .next (s.clockByteOut m) := next_unlessHeld hold _

theorem exec_requestExpiry_of_free {i : SlotId} (hr : (s.master m).slot i = none) : exec (.requestExpiry m i) s = .next s := by
  refine (next_unlessHeld hold _).trans ?_
  simp only [hr]

theorem exec_requestExpiry_of_live {i : SlotId} {r : Request} (hr : (s.master m).slot i = some r) :
    exec (.requestExpiry m i) s = .next
      (if r.expiryDue s.now then (s.onMaster m fun x => x.setSlot i (some (r.expire s.now))).arbitrate else s) := by
  refine (next_unlessHeld hold _).trans ?_
  simp only [hr]

end

/-! ### Steps and *now* -/

/-- Settles O1: the step function takes the front of the queue off. -/
theorem stepRunsTheFrontCommand : Obligations.StepRunsTheFrontCommand := by
  unfold Obligations.StepRunsTheFrontCommand
  intro s c rest hp
  simp only [step, hp]

/-- A step with no command waiting, in the numbers of R3, R4 and R7. -/
theorem step_of_idle {s : State} (hp : s.pending = []) :
    step s = .next
      (if s.resetHold = true ∨ s.tickSource = .external then s
       else if s.dividerCount + 1 < s.divisor then { s with dividerCount := s.dividerCount + 1 }
       else ({ s with dividerCount := 0 } : State).tick) := by
  have hidle : step s = .next s.idle := by simp only [step, hp]
  rw [hidle, State.idle]
  cases hold : s.resetHold with
  | true => rw [State.unlessHeld_of_held s hold, if_pos (.inl rfl)]
  | false =>
  rw [State.unlessHeld_of_released s hold, State.clockPeriod]
  cases hs : s.tickSource with
  | external => simp
  | divided =>
    by_cases hd : s.dividerCount + 1 < s.divisor
    · simp [hd, hold]
    · simp [hd, State.dividerReachesDivisor_of_due s hs (not_lt.mp hd), hold, hs]

/-- A run of any machine begins with its first step. -/
theorem core_run_succ (M : Host.Core) {s t : M.State} (h : M.step s = .next t) (k : Nat) : M.run (k + 1) s = M.run k t := by
  simp [Host.Core.run, h]

theorem run_succ {s t : State} (h : step s = .next t) (k : Nat) :
    Host.Core.run Sys2Proof.core (k + 1) s = Host.Core.run Sys2Proof.core k t :=
  core_run_succ Sys2Proof.core h k

section
variable {s : State} (hp : s.pending = []) (hold : s.resetHold = false) (hs : s.tickSource = .divided)
include hp hold hs

/-- Periods of the divided source, short of the divisor, only count (R4). -/
theorem run_counts (k rest : Nat) (h : s.dividerCount + k < s.divisor) :
    Host.Core.run Sys2Proof.core (k + rest) s
      = Host.Core.run Sys2Proof.core rest { s with dividerCount := s.dividerCount + k } := by
  induction k generalizing s with
  | zero => simp
  | succ k ih =>
    have hstep : step s = .next { s with dividerCount := s.dividerCount + 1 } := by
      rw [step_of_idle hp, if_neg (by simp [hold, hs]), if_pos (by omega)]
    have hgo := ih (s := { s with dividerCount := s.dividerCount + 1 }) hp hold hs (by dsimp only; omega)
    rw [Nat.add_right_comm, run_succ hstep, hgo]
    dsimp only
    rw [Nat.add_assoc, Nat.add_comm 1 k]

/-- The period in which the count reaches the divisor ticks (R4). -/
theorem step_ticks (h : s.divisor ≤ s.dividerCount + 1) : step s = .next ({ s with dividerCount := 0 } : State).tick := by
  rw [step_of_idle hp, if_neg (by simp [hold, hs]), if_neg (not_lt.mpr h)]

end

/-- Settles O2: a step with nothing waiting is a period; D of them from count 0 count D - 1 times and then tick. -/
theorem idleStepsPassClockPeriods : Obligations.IdleStepsPassClockPeriods := by
  unfold Obligations.IdleStepsPassClockPeriods
  refine ⟨fun s => step_of_idle, fun s hp hold hs hc hd => ⟨fun k hk => ?_, ?_⟩⟩
  · have hrun := run_counts hp hold hs k 0 (by omega)
    rwa [hc, Nat.zero_add] at hrun
  · have hrun := run_counts hp hold hs (s.divisor - 1) 1 (by omega)
    have hstep := step_ticks (s := { s with dividerCount := s.dividerCount + (s.divisor - 1) }) hp hold hs
      (by dsimp only; omega)
    have hzero : ({ s with dividerCount := 0 } : State) = s := by rw [← hc]
    rw [Nat.sub_add_cancel hd, run_succ hstep] at hrun
    rw [hrun]
    exact congrArg (fun u : State => Host.Outcome.next u.tick) hzero

/-- No change moves *now*. -/
theorem State.Change.now {s t : State} (h : s.Change t) : t.now = s.now := by
  cases h with
  | pending | release | bookkeep | renew | attach | template | noTemplate | claim | timeBase | link | enqueue | lanes
  | partition => rfl
  | sessionEnd | submit | capture | decide | removeItem | arbitrate => exact (State.arbitrate_frame _).now
  | store f rest =>
    refine (State.arbitrate_frame _).now.trans ?_
    change (s.storeFrame f).now = s.now
    unfold State.storeFrame
    dsimp only
    split <;> rfl
  | item =>
    unfold State.completeItem
    split
    · rfl
    dsimp only
    split
    · exact (State.arbitrate_frame _).now
    split
    · exact (State.arbitrate_frame _).now
    · refine (State.boundary_frame ..).now.trans ?_
      unfold State.countCorrupt
      split <;> rfl

theorem State.Changes.now {s t : State} (h : s.Changes t) : t.now = s.now :=
  h.keeps (P := fun u => u.now = s.now) (fun _ _ hchange hu => hchange.now.trans hu) rfl

/-- Settles O59: only the reset and a tick that is due move *now*. -/
theorem nowMovesOnlyByTicksAndReset : Obligations.NowMovesOnlyByTicksAndReset := by
  unfold Obligations.NowMovesOnlyByTicksAndReset
  intro s t h
  rcases step_cases h with ⟨hhead, hdue, q, rfl⟩ | ⟨hhead, hticks, hquiet⟩
  · exact ⟨fun hd => absurd hd hdue, fun _ => rfl, fun _ hne => absurd hhead hne⟩
  · refine ⟨fun hd => ?_, fun hreset => absurd hreset hhead, fun hd _ => (hquiet hd).now⟩
    obtain ⟨u, hchain, -, rfl⟩ := hticks hd
    rw [State.tick_now, hchain.now]

/-- Settles O3: the two rows that see a level, and the row of the divider, each by whether it is due. -/
theorem ticksComeFromTheirSource : Obligations.TicksComeFromTheirSource := by
  unfold Obligations.TicksComeFromTheirSource
  refine ⟨fun s level hold => ⟨fun hs hl => ?_, fun h => ?_, fun h => ?_⟩, fun s hold => ⟨fun hs hd => ?_, fun h => ?_⟩⟩
  · have hsee : s.seeTick .high = ({ s with tickLevel := .high } : State).tick := by simp [State.seeTick, hs, hl]
    exact ⟨(exec_tickArrival hold).trans (by rw [hsee]), (exec_tickLevelChange hold _).trans (by rw [hsee])⟩
  · rw [exec_tickArrival hold, State.seeTick, if_neg]
    rintro ⟨hs, hl, -⟩
    simp [hs, hl] at h
  · rw [exec_tickLevelChange hold, State.seeTick, if_neg]
    rintro ⟨hs, hl, rfl⟩
    simp [hs, hl] at h
  · rw [exec_dividerExpiry hold, s.dividerReachesDivisor_of_due hs hd]
  · rw [exec_dividerExpiry hold, s.dividerReachesDivisor_of_not_due h]

/-! ### The reactions -/

/-- A tag is past by 1 to 2^23 - 1 ticks (R8). -/
theorem isPast_iff (now t : Tag) : isPast now t = true ↔ 1 ≤ (now - t).toNat ∧ (now - t).toNat < 8388608 := by
  rw [isPast, Bool.and_eq_true, decide_eq_true_eq, decide_eq_true_eq]
  rfl

/-- A queued tag stands after a window exactly when its distance from the start is past the window and within half the
range (R10, R54). -/
theorem Request.after_iff (r : Request) (x : Tag) :
    (r.inWindow x || r.beforeWindow x) = false
      ↔ r.pre.toNat + r.post.toNat < (x - (r.trigger - r.pre.setWidth 24)).toNat
        ∧ (x - (r.trigger - r.pre.setWidth 24)).toNat < 8388608 := by
  rw [Bool.or_eq_false_iff, ← Bool.not_eq_true, ← Bool.not_eq_true, Request.inWindow_iff, Request.beforeWindow_iff,
    Request.BeforeWindow, Request.InWindow]
  have hneg : (x - (r.trigger - r.pre.setWidth 24)).toNat ≠ 0 →
      (r.trigger - r.pre.setWidth 24 - x).toNat = 16777216 - (x - (r.trigger - r.pre.setWidth 24)).toNat := by
    generalize r.trigger - r.pre.setWidth 24 = start
    bv_omega
  have hzero : (x - (r.trigger - r.pre.setWidth 24)).toNat = 0 → (r.trigger - r.pre.setWidth 24 - x).toNat = 0 := by
    generalize r.trigger - r.pre.setWidth 24 = start
    bv_omega
  have hlt := (x - (r.trigger - r.pre.setWidth 24)).isLt
  omega

/-- When the readiness test of a WAITING request succeeds, in the numbers of the manual (R11, R54, R68). -/
theorem Request.testReadiness_eq (now : Tag) (queue : List Frame) (r : Request) :
    ∃ passes : Bool, r.testReadiness now queue = (if passes then { r with state := .ready } else r)
      ∧ (passes = true ↔ r.state = .waiting ∧ 1 ≤ (now - (r.trigger + r.post.setWidth 24)).toNat
          ∧ (now - (r.trigger + r.post.setWidth 24)).toNat < 8388608
          ∧ ∀ f, queue.head? = some f →
              r.pre.toNat + r.post.toNat < (f.tag - (r.trigger - r.pre.setWidth 24)).toNat
                ∧ (f.tag - (r.trigger - r.pre.setWidth 24)).toNat < 8388608) := by
  refine ⟨_, rfl, ?_⟩
  simp only [Bool.and_eq_true, beq_iff_eq, Request.windowClosed, isPast_iff, Request.stop, Request.queueClear,
    Option.all_eq_true, Bool.not_eq_true', Request.after_iff, and_assoc]

/-- Settles O5: the readiness test succeeds exactly under its four conditions. -/
theorem readinessNeedsTimeAndQueue : Obligations.ReadinessNeedsTimeAndQueue := by
  unfold Obligations.ReadinessNeedsTimeAndQueue
  intro now queue r
  obtain ⟨passes, heq, hpasses⟩ := r.testReadiness_eq now queue
  refine ⟨fun hw h1 h2 hq => ?_, fun h => ?_⟩
  · rw [heq, if_pos (hpasses.mpr ⟨hw, h1, h2, hq⟩)]
  · rw [heq, if_neg]
    rw [hpasses]
    rintro ⟨hw, h1, h2, hq⟩
    rcases h with h | h | h | ⟨f, hf, h⟩
    · exact h hw
    · omega
    · omega
    · obtain ⟨hafter, hbelow⟩ := hq f hf
      omega

/-- Settles O6: the row is due for an attached port with at most one tick of its lease left. -/
theorem leaseExpiryEndsTheSession : Obligations.LeaseExpiryEndsTheSession := by
  unfold Obligations.LeaseExpiryEndsTheSession
  refine fun m s hold => ⟨fun x hx hle => ?_, fun h => ?_⟩
  · rw [exec_leaseExpiry hold, if_pos]
    simp [MasterState.attached, MasterState.leaseRemaining, hx, hle]
  · rw [exec_leaseExpiry hold, if_neg]
    rcases Option.eq_none_or_eq_some (s.master m).session with hs | ⟨x, hs⟩
    · simp [MasterState.attached, hs]
    · have := h x hs
      simp [MasterState.attached, MasterState.leaseRemaining, hs]
      omega

/-- A slot expires that is not CLOSING, carries no ending, and whose start has the expiry age (R76). -/
theorem Request.expiryDue_iff (now : Tag) (r : Request) :
    r.expiryDue now = true ↔ r.state ≠ .closing ∧ r.ending = none
      ∧ (now - (r.trigger - r.pre.setWidth 24)).toNat = 4194304 := by
  simp [Request.expiryDue, age, Config.expiryAge, Request.start, and_assoc]

theorem Request.decideEnding_of_none {r : Request} (he : r.ending = none) (e : Ending) :
    r.decideEnding e
      = { r with ending := some e, resume := none, state := if r.state = .active then .active else .closing } := by
  simp only [Request.decideEnding, he]

/-- Settles O7: the row decides EXPIRED where the expiry is due. -/
theorem requestExpiryDecidesExpired : Obligations.RequestExpiryDecidesExpired := by
  unfold Obligations.RequestExpiryDecidesExpired
  refine fun m i s hold => ⟨fun r hr hst he hage => ?_, fun h => ?_⟩
  · have hdue := (r.expiryDue_iff s.now).mpr ⟨hst, he, hage⟩
    rw [exec_requestExpiry_of_live hold hr, if_pos hdue, Request.expire, if_pos hdue, Request.decideEnding_of_none he]
    rfl
  · rcases Option.eq_none_or_eq_some ((s.master m).slot i) with hr | ⟨r, hr⟩
    · exact exec_requestExpiry_of_free hold hr
    · rw [exec_requestExpiry_of_live hold hr, if_neg]
      rw [Request.expiryDue_iff]
      rintro ⟨hst, he, hage⟩
      rcases h r hr with h | h | h
      · exact hst h
      · exact h he
      · exact h hage

/-- Writing back what a lane holds changes nothing. -/
theorem State.onLane_eq_self {s : State} {l : LaneId} {f : Lane → Lane} (h : f (s.lane l) = s.lane l) : s.onLane l f = s := by
  rw [State.onLane, h, State.setLane_self]

/-- Settles O8: each of the two retirements by whether it is due. -/
theorem retirementAtHalfTheRange : Obligations.RetirementAtHalfTheRange := by
  unfold Obligations.RetirementAtHalfTheRange
  refine fun l s hold => ⟨fun r rest hr hage => ?_, fun h => ?_, fun g hg hage => ?_, fun h => ?_⟩
  · have hdue : (s.lane l).recordDue s.now = true := by
      rw [Lane.recordDue, hr, List.head?_cons, Option.any_some, beq_iff_eq]
      exact hage
    rw [exec_recordRetirement hold, State.onLane, Lane.retireRecord, if_pos hdue, hr, List.tail_cons]
  · rw [exec_recordRetirement hold, State.onLane_eq_self]
    rw [Lane.retireRecord, if_neg]
    simpa [Lane.recordDue, Option.any_eq_true, age, Config.retirementAge] using h
  · have hdue : (s.lane l).gapDue s.now = true := by
      rw [Lane.gapDue, hg, Option.any_some, beq_iff_eq]
      exact hage
    rw [exec_openGapRetirement hold, State.onLane, Lane.retireGap, if_pos hdue]
  · rw [exec_openGapRetirement hold, State.onLane_eq_self]
    rw [Lane.retireGap, if_neg]
    simpa [Lane.gapDue, Option.any_eq_true, age, Config.retirementAge] using h

/-! ### The reset -/

/-- While RST is low nothing is taken from a port (R137). -/
theorem State.canTake_of_held {s : State} (hold : s.resetHold = true) (m : Master) (frame : List Byte) :
    s.canTake m frame = false := by
  simp [State.canTake, hold]

/-- While RST is low no row but the reset and its release has an effect (R7, R57, R80, R88, R123, R133, R137). -/
theorem exec_of_held {s : State} (hold : s.resetHold = true) (i : Instr) (hr : i ≠ .powerOnReset) (hl : i ≠ .rstRelease) :
    exec i s = .next s := by
  have hcommand : ∀ m c, s.command m c = s := fun m c => by
    rw [State.command, if_neg (by simp [State.canTake_of_held hold])]
  cases i with
  | attach | detach | keep | resetPort | readDevice | submitWindow | cancel | querySlot | setTemplate | clearTemplate
  | readItems | setWatermark | readLane | readFlags | ackFlags | setMask | claim | release | laneSetup | partition
  | purgeLanes | setTickSource | clearCounters | testCheck => exact congrArg _ (hcommand _ _)
  | badCheckFrame m frame =>
    rw [exec, execBadCheckFrame, if_neg (by simp [State.canTake_of_held hold])]
  | unknownCodeFrame m code =>
    rw [exec, execUnknownCodeFrame, if_neg (by simp [State.canTake_of_held hold])]
  | powerOnReset => exact absurd rfl hr
  | rstRelease => exact absurd rfl hl
  | _ => exact congrArg _ (State.unlessHeld_of_held s hold)

/-- Settles O54: the two rows of RST by their meanings, the others by the hold, and the power-on values one by one. -/
theorem resetGivesPowerOnValuesAndHolds : Obligations.ResetGivesPowerOnValuesAndHolds := by
  unfold Obligations.ResetGivesPowerOnValuesAndHolds
  have hlane : ∀ l, State.reset.lane l = Lane.reset := fun l => by simp [State.reset, State.lane]
  have hmaster : ∀ m, State.reset.master m = MasterState.reset := fun m => by simp [State.reset, State.master]
  refine ⟨fun s => ⟨rfl, rfl, fun i hold hr hl => exec_of_held hold i hr hl⟩,
    rfl, rfl, rfl, rfl, rfl, fun l => hlane l, ?_, rfl, rfl, rfl, rfl, rfl, rfl, rfl, rfl, rfl, rfl, rfl, fun m => ?_⟩
  · simp only [State.freePool, hlane]; decide
  · rw [hmaster]
    exact ⟨fun i => by simp [MasterState.reset, MasterState.slot], rfl, rfl, rfl, rfl, rfl, rfl, rfl, rfl, rfl, rfl, rfl, rfl,
      rfl, by decide, rfl⟩

end Sys2Proof.Machine
end

section
/-! PROOFS. The taking of a command's frame (R139, R142, R149): the row on a port that can receive it, the renewal of the
sender's lease, and the answer. Then the commands of the sessions, the buffers and the flags. -/

namespace Sys2Proof.Machine

/-! ### The taking of a frame -/

theorem State.canTake_iff (s : State) (m : Master) (frame : List Byte) : s.canTake m frame = true ↔ s.Receives m frame := by
  unfold State.canTake State.Receives
  rw [Bool.and_eq_true, Bool.not_eq_true']
  cases (s.master m).frame <;> simp

section
variable (s : State) (m n : Master)

/-! What the renewal of a lease leaves: everything but the session of its master. -/

@[simp] theorem State.renewed_now : (s.renewed m).now = s.now := rfl
@[simp] theorem State.renewed_claim : (s.renewed m).claim = s.claim := rfl
@[simp] theorem State.renewed_lane (l : LaneId) : (s.renewed m).lane l = s.lane l := rfl
@[simp] theorem State.renewed_freePool : (s.renewed m).freePool = s.freePool := rfl

theorem State.renewed_master_same : (s.renewed m).master m = { s.master m with
    session := (s.master m).session.map fun x => { x with leaseRemaining := x.leaseLength } } :=
  State.setMaster_master_same ..

theorem State.renewed_master_other (h : n ≠ m) : (s.renewed m).master n = s.master n := State.setMaster_master_other s _ h

/-- Nothing of a master but its session can tell whether a lease was renewed. -/
theorem State.renewed_master : (s.renewed m).master n = { s.master n with session := ((s.renewed m).master n).session } := by
  by_cases h : n = m
  · subst h; rw [State.renewed_master_same]
  · rw [State.renewed_master_other s m n h]

@[simp] theorem State.renewed_slot (i : SlotId) : ((s.renewed m).master n).slot i = (s.master n).slot i := by
  rw [State.renewed_master]; rfl
@[simp] theorem State.renewed_items : ((s.renewed m).master n).items = (s.master n).items := by rw [State.renewed_master]
@[simp] theorem State.renewed_order : ((s.renewed m).master n).order = (s.master n).order := by rw [State.renewed_master]
@[simp] theorem State.renewed_template : ((s.renewed m).master n).template = (s.master n).template := by
  rw [State.renewed_master]
@[simp] theorem State.renewed_firstFree : ((s.renewed m).master n).firstFree = (s.master n).firstFree := by
  rw [State.renewed_master]; rfl
@[simp] theorem State.renewed_flagsReport : ((s.renewed m).master n).flagsReport = (s.master n).flagsReport := by
  rw [State.renewed_master]; rfl
@[simp] theorem State.renewed_frameErrors : ((s.renewed m).master n).frameErrors = (s.master n).frameErrors := by
  rw [State.renewed_master]
@[simp] theorem State.renewed_badChecks : ((s.renewed m).master n).badChecks = (s.master n).badChecks := by
  rw [State.renewed_master]

@[simp] theorem State.renewed_attached : ((s.renewed m).master n).attached = (s.master n).attached := by
  by_cases h : n = m
  · subst h; simp [State.renewed_master_same, MasterState.attached]
  · rw [State.renewed_master_other s m n h]

/-- The session of a sender after the renewal of its lease (R149). -/
theorem State.renewed_session {x : Session} (h : (s.master m).session = some x) :
    ((s.renewed m).master m).session = some { x with leaseRemaining := x.leaseLength } := by
  rw [State.renewed_master_same, h]; rfl

/-- A detached sender has no lease to renew. -/
theorem State.renewed_of_detached (h : (s.master m).session = none) : s.renewed m = s := by
  have hsame : ({ s.master m with session := (s.master m).session.map fun x => { x with leaseRemaining := x.leaseLength } } :
      MasterState) = s.master m := by
    rw [h, Option.map_none, ← h]
  rw [State.renewed, hsame, State.setMaster_self]

/-- A session end does not look at the lease (R152). -/
theorem State.renewed_sessionEnd (why : EndReason) : (s.renewed m).sessionEnd m why = s.sessionEnd m why := by
  have hmaster : (s.renewed m).onMaster m (MasterState.endSession why) = s.onMaster m (MasterState.endSession why) := by
    rw [State.onMaster, State.renewed_master_same, State.renewed, State.setMaster_setMaster]
    rfl
  rw [State.sessionEnd, hmaster]
  rfl

end

theorem MasterState.attached_of_none {x : MasterState} (h : x.session = none) : x.attached = false := by
  simp [MasterState.attached, h]

theorem MasterState.attached_of_ne_none {x : MasterState} (h : x.session ≠ none) : x.attached = true := by
  simpa [MasterState.attached, Option.isSome_iff_ne_none] using h

section
variable {s : State} {m : Master}

/-- The row of a command on a port that can receive its frame: the command's effect after the renewal, and its answer. -/
theorem exec_command {c : Command} (h : s.Receives m c.frame) {effect : State → State × Reply}
    (htake : s.take m c = s.taken m effect) {t : State} {r : Reply} (he : effect (s.renewed m) = (t, r)) :
    exec (rowOf m c) s = .next (t.answer m r) := by
  have htaken : s.taken m effect = (effect (s.renewed m)).1.answer m (effect (s.renewed m)).2 := rfl
  rw [exec_rowOf, State.command, if_pos ((s.canTake_iff m _).mpr h), htake, htaken, he]

/-! ### Sessions -/

theorem takeAttach_of_attached (ha : (s.master m).attached = true) (h : Half) (w : LaneSet) (l : BitVec 24) :
    takeAttach m h w l s = (s, .refuse .already 3) := if_pos ha

theorem takeAttach_of_detached (ha : (s.master m).attached = false) (h : Half) (w : LaneSet) (l : BitVec 24) :
    takeAttach m h w l s =
      if l.toNat = 0 ∨ 1048575 < l.toNat then (s, .refuse .range 3)
      else (s.onMaster m fun x => { x with session := some ⟨h, w, l.toNat, l.toNat⟩ }, .ok (bytesOfTag s.now)) :=
  if_neg (by simp [ha])

end

/-- Settles O15: the three outcomes of ATTACH in the order of its checks. -/
theorem attachOpensTheSession : Obligations.AttachOpensTheSession := by
  unfold Obligations.AttachOpensTheSession
  refine fun m h w l s hrec => ⟨fun hs h1 h2 => ?_, fun hs => ?_, fun hs hl => ?_⟩
  · have he := takeAttach_of_detached (MasterState.attached_of_none hs) h w l
    rw [if_neg (by omega)] at he
    rw [← s.renewed_of_detached m hs] at he
    refine (exec_command hrec rfl he).trans ?_
    rw [s.renewed_of_detached m hs]
    rfl
  · exact exec_command hrec rfl
      (takeAttach_of_attached ((s.renewed_attached m m).trans (MasterState.attached_of_ne_none hs)) h w l)
  · have he := takeAttach_of_detached ((s.renewed_attached m m).trans (MasterState.attached_of_none hs)) h w l
    rw [if_pos hl] at he
    exact exec_command hrec rfl he

/-- Settles O16: DETACH and RESET PORT end the session where there is one. -/
theorem detachAndResetPortEndTheSession : Obligations.DetachAndResetPortEndTheSession := by
  unfold Obligations.DetachAndResetPortEndTheSession
  refine ⟨fun m s hrec => ⟨fun hs => ?_, fun hs => ?_⟩, fun m s hrec => ⟨fun hs => ?_, fun hs => ?_⟩⟩
  · have ha := (s.renewed_attached m m).trans (MasterState.attached_of_ne_none hs)
    have he : takeDetach m (s.renewed m) = ((s.sessionEnd m .detach).arbitrate, .ok []) := by
      rw [takeDetach, if_pos ha, State.renewed_sessionEnd]
    exact exec_command hrec rfl he
  · have ha := (s.renewed_attached m m).trans (MasterState.attached_of_none hs)
    have he : takeDetach m (s.renewed m) = (s.renewed m, .refuse .notAttached 0) := by
      rw [takeDetach, if_neg (by simp [ha])]
    exact exec_command hrec rfl he
  · have ha := (s.renewed_attached m m).trans (MasterState.attached_of_ne_none hs)
    have he : takeResetPort m (s.renewed m)
        = (((s.sessionEnd m .portReset).onMaster m MasterState.restorePort).arbitrate, .ok [0x01]) := by
      simp only [takeResetPort, ha, if_true, State.renewed_sessionEnd, yesNoByte]
    exact exec_command hrec rfl he
  · have ha := (s.renewed_attached m m).trans (MasterState.attached_of_none hs)
    have he : takeResetPort m (s.renewed m) = ((s.onMaster m MasterState.restorePort).arbitrate, .ok [0x00]) := by
      rw [s.renewed_of_detached m hs] at ha ⊢
      simp [takeResetPort, ha, yesNoByte]
    exact exec_command hrec rfl he

/-- Settles O17: KEEP reports the lease as it stood before the renewal. -/
theorem keepReportsAndRenews : Obligations.KeepReportsAndRenews := by
  unfold Obligations.KeepReportsAndRenews
  refine fun m s hrec => ⟨fun x hx => ?_, fun hs => ?_⟩
  · have he : takeKeep m (s.master m).leaseRemaining (s.renewed m)
        = (s.setMaster m { s.master m with session := some { x with leaseRemaining := x.leaseLength } },
          .ok (bytesOfTag s.now ++ [0x01] ++ bytesOfTag (BitVec.ofNat 24 x.leaseRemaining))) := by
      rw [takeKeep, State.renewed_attached, MasterState.attached_of_ne_none (by simp [hx])]
      simp [MasterState.leaseRemaining, hx, yesNoByte, bytesOfLong, State.renewed]
    exact exec_command hrec rfl he
  · have he : takeKeep m (s.master m).leaseRemaining (s.renewed m) = (s, .ok (bytesOfTag s.now ++ [0x00, 0, 0, 0])) := by
      rw [takeKeep, State.renewed_attached, MasterState.attached_of_none hs, s.renewed_of_detached m hs]
      simp [MasterState.leaseRemaining, hs, yesNoByte, bytesOfLong, bytesOfTag]
    exact exec_command hrec rfl he

/-- A session end as one state, its frame state, its service and its ENDED flag in any equal form. -/
theorem State.sessionEnd_eq {s : State} {m : Master} {why : EndReason} {f : FrameState} {v : Option Serving} {e : Bool}
    (hframe : (s.master m).frame.cutReadItems = f)
    (hserving : (if s.serving.any (fun v => v.master == m) then none else s.serving) = v)
    (hended : ((s.master m).ended || why == .lease) = e) :
    s.sessionEnd m why =
      { s.setMaster m
          { s.master m with
            session := none, lastEnd := why, slots := Vector.replicate 8 none, order := [], template := none, items := []
            reading := none, closed := false, refused := false, pressure := false, ended := e, frame := f } with
        serving := v
        claim := if s.claim = some m then none else s.claim } := by
  subst hframe hserving hended
  rfl

/-- Settles O18: the definition of a session end, field by field. -/
theorem sessionEndClearsTheMaster : Obligations.SessionEndClearsTheMaster := by
  unfold Obligations.SessionEndClearsTheMaster
  intro s m why
  have hframe : (s.master m).frame.cutReadItems = match (s.master m).frame with
      | .answering a => .answering { a with cut := a.cut || a.ofReadItems }
      | f => f := by
    unfold FrameState.cutReadItems
    cases (s.master m).frame with
    | answering a =>
      obtain ⟨head, groups, ofReadItems, cut, shifted⟩ := a
      cases ofReadItems <;> cases cut <;> rfl
    | deselected | receiving | trailing => rfl
  have hserving : (if s.serving.any (fun v => v.master == m) then none else s.serving)
      = match s.serving with | some v => if v.master = m then none else some v | none => none := by
    cases s.serving with
    | none => rfl
    | some v => by_cases hv : v.master = m <;> simp [hv]
  have hended : ((s.master m).ended || why == .lease) = ((s.master m).ended || decide (why = .lease)) := by
    cases why <;> rfl
  exact State.sessionEnd_eq hframe hserving hended

/-! ### READ DEVICE -/

/-- A master byte in numbers (R184). -/
theorem masterByte_some (m : Master) : masterByte (some m) = BitVec.ofNat 8 (128 + m.val) := by
  revert m; decide

theorem masterByte_eq (o : Option Master) :
    masterByte o = match o with | none => 0 | some h => BitVec.ofNat 8 (128 + h.val) := by
  cases o with
  | none => rfl
  | some m => exact masterByte_some m

/-- The engine byte in numbers (R184). -/
theorem engineByte_eq (o : Option Serving) :
    engineByte o = match o with | none => 0 | some v => BitVec.ofNat 8 (128 + 16 * v.master.val + v.slot.val) := by
  have hbytes : ∀ (m : Master) (i : SlotId),
      (1 : BitVec 1) ++ (0 : BitVec 1) ++ BitVec.ofNat 2 m.val ++ (0 : BitVec 1) ++ BitVec.ofNat 3 i.val
        = BitVec.ofNat 8 (128 + 16 * m.val + i.val) := by decide
  cases o with
  | none => rfl
  | some v => exact hbytes v.master v.slot

/-- The attached set in numbers (R184). -/
theorem State.attachedSet_eq (s : State) :
    s.attachedSet = BitVec.ofNat 8 (bit (s.master 0).session.isSome + 2 * bit (s.master 1).session.isSome
      + 4 * bit (s.master 2).session.isSome + 8 * bit (s.master 3).session.isSome) := by
  have hbits : ∀ a b c d : Bool,
      (0 : BitVec 4) ++ BitVec.ofBool d ++ BitVec.ofBool c ++ BitVec.ofBool b ++ BitVec.ofBool a
        = BitVec.ofNat 8 (bit a + 2 * bit b + 4 * bit c + 8 * bit d) := by decide
  exact hbits ..

/-- The report of the part does not look at a lease (R155). -/
theorem State.renewed_deviceReport (s : State) (m : Master) : (s.renewed m).deviceReport m = s.deviceReport m := by
  have hset : (s.renewed m).attachedSet = s.attachedSet := by simp only [State.attachedSet, State.renewed_attached]
  simp only [State.deviceReport, hset, State.renewed_frameErrors, State.renewed_badChecks, State.renewed_freePool]
  rfl

/-- Settles O19: the report, its bytes in numbers. -/
theorem readDeviceReportsThePart : Obligations.ReadDeviceReportsThePart := by
  unfold Obligations.ReadDeviceReportsThePart
  intro m s hrec
  have he : takeReadDevice m (s.renewed m) = (s.renewed m, .ok (s.deviceReport m)) := by
    rw [takeReadDevice, State.renewed_deviceReport]
  refine (exec_command hrec rfl he).trans ?_
  rw [State.deviceReport, State.attachedSet_eq, engineByte_eq, masterByte_eq]
  simp only [List.append_assoc]
  rfl

/-! ### READ ITEMS, the watermark and the flags -/

/-- Settles O26: the three outcomes of READ ITEMS in the order of its checks. -/
theorem readItemsFixesItsCount : Obligations.ReadItemsFixesItsCount := by
  unfold Obligations.ReadItemsFixesItsCount
  refine fun m n s hrec => ⟨fun hs => ?_, fun hs hn => ?_, fun hs h1 h2 => ?_⟩
  · have he : takeReadItems m n (s.renewed m) = (s.renewed m, .refuseRead .notAttached) := by
      simp [takeReadItems, MasterState.attached_of_none hs]
    exact exec_command hrec rfl he
  · have he : takeReadItems m n (s.renewed m) = (s.renewed m, .refuseRead .range) := by
      rw [takeReadItems, State.renewed_attached, MasterState.attached_of_ne_none hs, if_neg (by simp), if_pos hn]
    exact exec_command hrec rfl he
  · have he : takeReadItems m n (s.renewed m)
        = ((s.renewed m).onMaster m fun x => { x with reading := some ⟨min n.toNat (s.master m).items.length, 0⟩ },
          { status := .ok, data := [byteOfNat (min n.toNat (s.master m).items.length)],
            groups := min n.toNat (s.master m).items.length, ofReadItems := true }) := by
      rw [takeReadItems, State.renewed_attached, MasterState.attached_of_ne_none hs, if_neg (by simp),
        if_neg (by rw [Config.maxReadItems]; omega), State.renewed_items]
    exact exec_command hrec rfl he

/-- The low five bits of a byte. -/
theorem setWidth_five (b : Byte) : (b.setWidth 5).setWidth 8 = b &&& 0x1F := by
  apply BitVec.eq_of_toNat_eq
  have hmask : (b &&& 0x1F).toNat = b.toNat % 2 ^ 5 := Nat.and_two_pow_sub_one_eq_mod b.toNat 5
  rw [hmask, BitVec.toNat_setWidth, BitVec.toNat_setWidth]
  omega

/-- Settles O29: SET WATERMARK by its range, SET MASK by its five places. -/
theorem watermarkAndMaskAreStored : Obligations.WatermarkAndMaskAreStored := by
  unfold Obligations.WatermarkAndMaskAreStored
  refine ⟨fun m w s hrec => ⟨fun h1 h2 => ?_, fun hw => ?_⟩, fun m mask s hrec => ?_⟩
  · have he : takeSetWatermark m w (s.renewed m)
        = ((s.renewed m).onMaster m fun x => { x with watermark := w.toNat }, .ok [w]) :=
      if_neg (by rw [Config.bufferDepth]; omega)
    exact exec_command hrec rfl he
  · have he : takeSetWatermark m w (s.renewed m) = (s.renewed m, .refuse .range 1) := if_pos hw
    exact exec_command hrec rfl he
  · have he : takeSetMask m mask (s.renewed m)
        = ((s.renewed m).onMaster m fun x => { x with mask := mask.setWidth 5 }, .ok [mask &&& 0x1F]) := by
      rw [takeSetMask, setWidth_five]
    exact exec_command hrec rfl he

/-- The flags byte in numbers (R183). -/
theorem MasterState.flagsByte_eq (x : MasterState) :
    x.flagsByte = BitVec.ofNat 8 (bit (decide (x.watermark ≤ x.items.length)) + 2 * bit x.closed + 4 * bit x.refused
      + 8 * bit x.pressure + 16 * bit x.ended) := by
  have hbits : ∀ a b c d e : Bool,
      (BitVec.ofBool e ++ BitVec.ofBool d ++ BitVec.ofBool c ++ BitVec.ofBool b ++ BitVec.ofBool a : BitVec 5).setWidth 8
        = BitVec.ofNat 8 (bit a + 2 * bit b + 4 * bit c + 8 * bit d + 16 * bit e) := by decide
  exact hbits ..

theorem EndReason.byte_eq (e : EndReason) :
    e.byte = match e with | .detach => 0x01 | .lease => 0x02 | .portReset => 0x03 | .power => 0x04 := by
  cases e <;> rfl

theorem RefusalReason.byte_eq (r : RefusalReason) :
    r.byte = match r with | .none => 0x00 | .notAttached => 0x01 | .noTemplate => 0x02 | .queueFull => 0x03 := by
  cases r <;> rfl

/-- Settles O30: the report of READ FLAGS, and the flags ACK FLAGS leaves, in numbers. -/
theorem flagsAreReadAndAcknowledged : Obligations.FlagsAreReadAndAcknowledged := by
  unfold Obligations.FlagsAreReadAndAcknowledged
  refine ⟨fun m s hrec => ?_, fun m set s hrec => ?_⟩
  · have he : takeReadFlags m (s.renewed m) = (s.renewed m, .ok (s.master m).flagsReport) := by
      rw [takeReadFlags, State.renewed_flagsReport]
    refine (exec_command hrec rfl he).trans ?_
    rw [MasterState.flagsReport, MasterState.flagsByte_eq, EndReason.byte_eq, RefusalReason.byte_eq]
    rfl
  · have hflags : (((s.renewed m).master m).ackFlags set).flagsByte = ((s.master m).ackFlags set).flagsByte := by
      rw [State.renewed_master]; rfl
    have he : takeAckFlags m set (s.renewed m)
        = ((s.renewed m).onMaster m fun x => x.ackFlags set, .ok [((s.master m).ackFlags set).flagsByte]) := by
      rw [takeAckFlags, hflags]
    refine (exec_command hrec rfl he).trans ?_
    rw [MasterState.flagsByte_eq, State.onMaster, MasterState.ackFlags]
    simp only [State.renewed_master_same]
    rfl

end Sys2Proof.Machine
end

section
/-! PROOFS. The window requests and the capture templates (chapters 4 and 5): SUBMIT WINDOW, CANCEL, QUERY SLOT, the two
template commands and the edges of the capture lines. -/

namespace Sys2Proof.Machine

/-! ### The checks in the numbers of the manual -/

theorem triggerPlaced_iff (now t : Tag) : triggerPlaced now t = true ↔ TriggerOk now t := by
  rw [triggerPlaced, Bool.or_eq_true, pastOrPresent, isAhead, Bool.and_eq_true, decide_eq_true_eq, decide_eq_true_eq,
    decide_eq_true_eq]
  rfl

theorem startPlaced_iff (now start : Tag) (horizon : Half) : startPlaced now start horizon = true ↔ StartOk now start horizon := by
  have hzero : age now start = 0 ↔ start = now := by
    rw [age]
    constructor
    · intro h; bv_omega
    · rintro rfl; simp
  rw [startPlaced, Bool.or_eq_true, Bool.or_eq_true, beq_iff_eq, hzero, isAhead, Bool.and_eq_true, Bool.and_eq_true,
    isPast_iff, decide_eq_true_eq, decide_eq_true_eq, decide_eq_true_eq, or_assoc, and_assoc]
  rfl

theorem budgetRefused_eq_true_iff (b : Half) : budgetRefused b = true ↔ ¬ BudgetOk b := by
  rw [← budgetRefused_eq_false_iff, Bool.not_eq_false]

theorem lanesRefused_eq_true_iff (ls watch : LaneSet) : lanesRefused ls watch = true ↔ ¬ LanesOk ls watch := by
  rw [← lanesRefused_eq_false_iff, Bool.not_eq_false]

/-- The lowest FREE slot is the first that the search for one meets (R66). -/
theorem MasterState.firstFree_of_lowestFree {x : MasterState} {i : SlotId} (h : x.LowestFree i) : x.firstFree = some i := by
  obtain ⟨hfree, hlower⟩ := h
  have hsplit : ∀ i : SlotId, ∃ before after, allSlots = before ++ i :: after ∧ ∀ j ∈ before, j < i := by
    intro i
    exact ⟨allSlots.take i.val, allSlots.drop (i.val + 1), by revert i; decide, by revert i; decide⟩
  obtain ⟨before, after, hslots, hbefore⟩ := hsplit i
  refine List.find?_eq_some_iff_append.mpr ⟨by simp [hfree], before, after, hslots, fun j hj => ?_⟩
  have hlive := hlower j (hbefore j hj)
  cases hs : x.slot j with
  | none => exact absurd hs hlive
  | some r => rfl

theorem MasterState.firstFree_of_full {x : MasterState} (h : ∀ i, x.slot i ≠ none) : x.firstFree = none := by
  refine List.find?_eq_none.mpr fun i _ => ?_
  simpa using h i

theorem slotOf?_of_lt {b : Byte} {i : SlotId} (h : b.toNat = i.val) : slotOf? b = some i := by
  rw [slotOf?, dif_pos (h ▸ i.isLt)]
  exact congrArg some (Fin.ext h)

theorem slotOf?_of_ge {b : Byte} (h : 8 ≤ b.toNat) : slotOf? b = none := dif_neg (not_lt.mpr h)

/-! ### SUBMIT WINDOW -/

section
variable {s : State} {m : Master} {sess : Session}
variable (trigger : Tag) (pre post : Half) (lanes : LaneSet) (control : Byte) (budget : Half) (label : Byte)

theorem takeSubmitWindow_of_detached (hs : (s.master m).session = none) :
    takeSubmitWindow m trigger pre post lanes control budget label s = (s, .refuse .notAttached 4) := by
  simp only [takeSubmitWindow, hs]

/-- SUBMIT WINDOW of an attached sender: the checks of R62 to R66 in their order, then the admission. -/
theorem takeSubmitWindow_of_attached (hs : (s.master m).session = some sess) {t : Tag}
    (ht : t = if control.getLsbD 2 then s.now else trigger) :
    takeSubmitWindow m trigger pre post lanes control budget label s =
      if budgetRefused budget then (s, .refuse .range 4)
      else if lanesRefused lanes sess.watchSet then (s, .refuse .lanes 4)
      else if !triggerPlaced s.now t then (s, .refuse .ahead 4)
      else if !startPlaced s.now (t - pre.setWidth 24) sess.horizon then (s, .refuse .late 4)
      else match (s.master m).firstFree with
        | none => (s, .refuse .queueFull 4)
        | some i =>
          ((s.enterSlot m i (.fresh .command (classOf control) t pre post lanes (leadWantedOf control) budget.toNat label)).arbitrate,
            .ok ([byteOfNat i.val] ++ bytesOfTag t)) := by
  subst ht
  simp only [takeSubmitWindow, hs]
  rfl

end

/-- Settles O20: every check passes, so the request is admitted. -/
theorem submitWindowAdmits : Obligations.SubmitWindowAdmits := by
  unfold Obligations.SubmitWindowAdmits
  intro m trigger pre post lanes control budget label s x t i hrec hs hb hl ht htrigger hstart hfree
  have he := takeSubmitWindow_of_attached trigger pre post lanes control budget label (s.renewed_session m hs) ht
  rw [if_neg (by rwa [budgetRefused_eq_true_iff, not_not]), if_neg (by rwa [lanesRefused_eq_true_iff, not_not]),
    State.renewed_now, (triggerPlaced_iff s.now t).mpr htrigger, (startPlaced_iff ..).mpr hstart, if_neg (by simp),
    if_neg (by simp), State.renewed_firstFree, MasterState.firstFree_of_lowestFree hfree] at he
  refine (exec_command hrec rfl he).trans ?_
  rw [State.enterSlot, State.onMaster, State.renewed_order]
  rfl

/-- Settles O21: the first check that fails answers. -/
theorem submitWindowRefusals : Obligations.SubmitWindowRefusals := by
  unfold Obligations.SubmitWindowRefusals
  intro m trigger pre post lanes control budget label s t hrec ht
  refine ⟨fun hs => ?_, fun x hs => ?_⟩
  · have he := takeSubmitWindow_of_detached trigger pre post lanes control budget label (s := s.renewed m) (m := m)
      (by rw [s.renewed_of_detached m hs]; exact hs)
    exact exec_command hrec rfl he
  have he := takeSubmitWindow_of_attached trigger pre post lanes control budget label (s.renewed_session m hs) ht
  rw [State.renewed_now] at he
  refine ⟨fun hb => ?_, fun hb hl => ?_, fun hb hl htrigger => ?_, fun hb hl htrigger hstart => ?_,
    fun hb hl htrigger hstart hfull => ?_⟩
  · rw [if_pos ((budgetRefused_eq_true_iff _).mpr hb)] at he
    exact exec_command hrec rfl he
  all_goals rw [if_neg (by rwa [budgetRefused_eq_true_iff, not_not])] at he
  · rw [if_pos ((lanesRefused_eq_true_iff ..).mpr hl)] at he
    exact exec_command hrec rfl he
  all_goals rw [if_neg (by rwa [lanesRefused_eq_true_iff, not_not])] at he
  · rw [if_pos (by rw [← triggerPlaced_iff] at htrigger; simpa using htrigger)] at he
    exact exec_command hrec rfl he
  all_goals rw [(triggerPlaced_iff s.now t).mpr htrigger, if_neg (by simp)] at he
  · rw [if_pos (by rw [← startPlaced_iff] at hstart; simpa using hstart)] at he
    exact exec_command hrec rfl he
  · rw [(startPlaced_iff ..).mpr hstart, if_neg (by simp), State.renewed_firstFree,
      MasterState.firstFree_of_full hfull] at he
    exact exec_command hrec rfl he

/-! ### CANCEL and QUERY SLOT -/

/-- An ending byte in numbers (R184). -/
theorem endingByte_some (e : Ending) :
    endingByte (some e) = match e with | .complete => 0x80 | .truncated => 0x81 | .cancelled => 0x82 | .expired => 0x83 := by
  cases e <;> rfl

section
variable {s : State} {m : Master} {slot : Byte}

/-- CANCEL of an attached sender, for a byte that names a slot (R74). -/
theorem takeCancel_of_slot (ha : (s.master m).attached = true) {i : SlotId} (hi : slot.toNat = i.val) :
    takeCancel m slot s = match (s.master m).slot i with
      | none => (s, .refuse .badSlot 2)
      | some r => match r.ending with
        | some _ => (s, .ok (cancelData r))
        | none => ((s.onMaster m fun x => x.setSlot i (some (r.decideEnding .cancelled))).arbitrate,
            .ok (cancelData (r.decideEnding .cancelled))) := by
  simp only [takeCancel, ha, slotOf?_of_lt hi]
  rfl

/-- CANCEL where no ending is decided: the ending is CANCELLED, and the slot stays ACTIVE or becomes CLOSING. -/
theorem exec_cancel_of_undecided {i : SlotId} {r : Request} (hrec : s.Receives m (Command.cancel slot).frame)
    (hs : (s.master m).session ≠ none) (hi : slot.toNat = i.val) (hr : (s.master m).slot i = some r) (he : r.ending = none) :
    exec (.cancel m slot) s = .next
      ((((s.renewed m).onMaster m fun x => x.setSlot i (some (r.decideEnding .cancelled))).arbitrate).answer m
        (.ok (cancelData (r.decideEnding .cancelled)))) := by
  have ht := takeCancel_of_slot ((s.renewed_attached m m).trans (MasterState.attached_of_ne_none hs)) hi
  simp only [State.renewed_slot, hr, he] at ht
  exact exec_command hrec rfl ht

end

/-- Settles O22: CANCEL by the slot's state. -/
theorem cancelDecidesCancelled : Obligations.CancelDecidesCancelled := by
  unfold Obligations.CancelDecidesCancelled
  refine fun m slot s hrec => ⟨fun hs => ?_, fun hs hi => ?_, fun i hs hi => ⟨fun hr => ?_, fun r hr he hst => ?_,
    fun r hr he hst => ?_, fun r e hr he hst => ?_⟩⟩
  · have ht : takeCancel m slot (s.renewed m) = (s.renewed m, .refuse .notAttached 2) := by
      simp [takeCancel, MasterState.attached_of_none hs]
    exact exec_command hrec rfl ht
  · have ht : takeCancel m slot (s.renewed m) = (s.renewed m, .refuse .range 2) := by
      simp [takeCancel, MasterState.attached_of_ne_none hs, slotOf?_of_ge hi]
    exact exec_command hrec rfl ht
  · have ht := takeCancel_of_slot ((s.renewed_attached m m).trans (MasterState.attached_of_ne_none hs)) hi
    simp only [State.renewed_slot, hr] at ht
    exact exec_command hrec rfl ht
  · rw [exec_cancel_of_undecided hrec hs hi hr he, Request.decideEnding_of_none he, if_pos hst, ← hst]
    rw [cancelData, hst]
    rfl
  · have hne : r.state ≠ .active := by rcases hst with h | h <;> rw [h] <;> exact nofun
    rw [exec_cancel_of_undecided hrec hs hi hr he, Request.decideEnding_of_none he, if_neg hne]
    rfl
  · have ht := takeCancel_of_slot ((s.renewed_attached m m).trans (MasterState.attached_of_ne_none hs)) hi
    simp only [State.renewed_slot, hr, he] at ht
    refine (exec_command hrec rfl ht).trans ?_
    rw [cancelData, he, endingByte_some]
    rcases hst with h | h <;> rw [h] <;> rfl

/-- The slot byte in numbers (R184). -/
theorem slotByte_some (r : Request) :
    slotByte (some r) = BitVec.ofNat 8
      ((match r.state with | .waiting => 1 | .ready => 2 | .active => 3 | .closing => 4)
        + 8 * bit (r.cls == .urgent) + 16 * bit (r.origin == .capture) + 32 * bit r.opened) := by
  rw [slotByte]
  cases r.state <;> cases r.cls <;> cases r.origin <;> cases r.opened <;> rfl

/-- The resume byte in numbers (R184). -/
theorem resumeByte_eq (o : Option Resume) :
    resumeByte o = match o with
      | none => 0
      | some p => BitVec.ofNat 8 (128 + 32 * (match p.phase with | .lead => 0 | .records => 1 | .finish => 2) + p.lane.val) := by
  have hlead : ∀ l : LaneId, (1 : BitVec 1) ++ (0 : BitVec 2) ++ (0 : BitVec 1) ++ BitVec.ofNat 4 l.val
    = BitVec.ofNat 8 (128 + 32 * 0 + l.val) := by decide
  have hrecords : ∀ l : LaneId, (1 : BitVec 1) ++ (1 : BitVec 2) ++ (0 : BitVec 1) ++ BitVec.ofNat 4 l.val
    = BitVec.ofNat 8 (128 + 32 * 1 + l.val) := by decide
  have hfinish : ∀ l : LaneId, (1 : BitVec 1) ++ (2 : BitVec 2) ++ (0 : BitVec 1) ++ BitVec.ofNat 4 l.val
    = BitVec.ofNat 8 (128 + 32 * 2 + l.val) := by decide
  cases o with
  | none => rfl
  | some p =>
    obtain ⟨lane, phase, last, contributed⟩ := p
    cases phase with
    | lead => exact hlead lane
    | records => exact hrecords lane
    | finish => exact hfinish lane

theorem endingByte_eq (o : Option Ending) :
    endingByte o = match o with
      | none => 0x00 | some .complete => 0x80 | some .truncated => 0x81 | some .cancelled => 0x82 | some .expired => 0x83 := by
  cases o with
  | none => rfl
  | some e => cases e <;> rfl

/-- Settles O23: the report of a slot, its bytes in numbers. -/
theorem querySlotReportsTheSlot : Obligations.QuerySlotReportsTheSlot := by
  unfold Obligations.QuerySlotReportsTheSlot
  refine fun m slot s hrec => ⟨fun hs => ?_, fun hs hi => ?_, fun i hs hi => ?_⟩
  · have ht : takeQuerySlot m slot (s.renewed m) = (s.renewed m, .refuse .notAttached 9) := by
      simp [takeQuerySlot, MasterState.attached_of_none hs]
    exact exec_command hrec rfl ht
  · have ht : takeQuerySlot m slot (s.renewed m) = (s.renewed m, .refuse .range 9) := by
      simp [takeQuerySlot, MasterState.attached_of_ne_none hs, slotOf?_of_ge hi]
    exact exec_command hrec rfl ht
  · have ht : takeQuerySlot m slot (s.renewed m) = (s.renewed m, .ok (slotReport ((s.master m).slot i))) := by
      simp [takeQuerySlot, MasterState.attached_of_ne_none hs, slotOf?_of_lt hi]
    refine ⟨fun hr => ?_, fun r hr => ?_⟩
    · rw [hr] at ht
      exact exec_command hrec rfl ht
    · rw [hr] at ht
      refine (exec_command hrec rfl ht).trans ?_
      rw [slotReport, slotByte_some, resumeByte_eq, endingByte_eq]
      rfl

/-! ### Templates and capture edges -/

section
variable {s : State} {m : Master} {sess : Session}
variable (lag pre post : Half) (lanes : LaneSet) (control : Byte) (budget : Half) (label : Byte)

theorem takeSetTemplate_of_detached (hs : (s.master m).session = none) :
    takeSetTemplate m lag pre post lanes control budget label s = (s, .refuse .notAttached 0) := by
  simp only [takeSetTemplate, hs]

/-- SET TEMPLATE of an attached sender: its checks in their order, then the storing (R85). -/
theorem takeSetTemplate_of_attached (hs : (s.master m).session = some sess) :
    takeSetTemplate m lag pre post lanes control budget label s =
      if budgetRefused budget then (s, .refuse .range 0)
      else if lanesRefused lanes sess.watchSet then (s, .refuse .lanes 0)
      else if sess.horizon.toNat < lag.toNat + pre.toNat then (s, .refuse .range 0)
      else (s.onMaster m fun x =>
          { x with template := some ⟨lag, pre, post, lanes, classOf control, leadWantedOf control, budget.toNat, label⟩ },
        .ok []) := by
  simp only [takeSetTemplate, hs]

end

/-- Settles O24: SET TEMPLATE by the first check that fails, CLEAR TEMPLATE by whether the sender is attached. -/
theorem templatesAreStoredAndCleared : Obligations.TemplatesAreStoredAndCleared := by
  unfold Obligations.TemplatesAreStoredAndCleared
  refine fun m lag pre post lanes control budget label s => ⟨fun hrec => ⟨fun hs => ?_, fun x hs => ?_⟩,
    fun hrec => ⟨fun hs => ?_, fun hs => ?_⟩⟩
  · have he := takeSetTemplate_of_detached lag pre post lanes control budget label (s := s.renewed m) (m := m)
      (by rw [s.renewed_of_detached m hs]; exact hs)
    exact exec_command hrec rfl he
  · have he := takeSetTemplate_of_attached lag pre post lanes control budget label (s.renewed_session m hs)
    refine ⟨fun hb => ?_, fun hb hl => ?_, fun hb hl hh => ?_, fun hb hl hh => ?_⟩
    · rw [if_pos ((budgetRefused_eq_true_iff _).mpr hb)] at he
      exact exec_command hrec rfl he
    all_goals rw [if_neg (by rwa [budgetRefused_eq_true_iff, not_not])] at he
    · rw [if_pos ((lanesRefused_eq_true_iff ..).mpr hl)] at he
      exact exec_command hrec rfl he
    all_goals rw [if_neg (by rwa [lanesRefused_eq_true_iff, not_not])] at he
    · rw [if_pos hh] at he
      exact exec_command hrec rfl he
    · rw [if_neg (not_lt.mpr hh)] at he
      exact exec_command hrec rfl he
  · have he : takeClearTemplate m (s.renewed m) = (s.renewed m, .refuse .notAttached 1) := by
      simp [takeClearTemplate, MasterState.attached_of_none hs]
    exact exec_command hrec rfl he
  · have he : takeClearTemplate m (s.renewed m)
        = ((s.renewed m).onMaster m fun x => { x with template := none },
          .ok [if (s.master m).template = none then 0x00 else 0x01]) := by
      rw [takeClearTemplate, State.renewed_attached, MasterState.attached_of_ne_none hs, if_neg (by simp),
        State.renewed_template]
      cases (s.master m).template <;> rfl
    exact exec_command hrec rfl he

/-- An edge that finds the line high only keeps the level, and one that finds it low arrives (R88). -/
theorem State.seeCap_high (s : State) (m : Master) :
    s.seeCap m .high = if (s.master m).capLevel = .low
      then (s.onMaster m fun x => { x with capLevel := .high }).captureArrives m
      else s.onMaster m fun x => { x with capLevel := .high } := by
  simp [State.seeCap]

theorem State.captureArrives_of_detached {s : State} {m : Master} (hs : (s.master m).session = none) :
    s.captureArrives m = s.onMaster m (MasterState.refuseEdge .notAttached) := by
  simp [State.captureArrives, MasterState.attached_of_none hs]

theorem State.captureArrives_of_noTemplate {s : State} {m : Master} (hs : (s.master m).session ≠ none)
    (ht : (s.master m).template = none) :
    s.captureArrives m = s.onMaster m (MasterState.refuseEdge .noTemplate) := by
  simp [State.captureArrives, MasterState.attached_of_ne_none hs, ht]

theorem State.captureArrives_of_full {s : State} {m : Master} (hs : (s.master m).session ≠ none)
    (ht : (s.master m).template ≠ none) (hfull : (s.master m).firstFree = none) :
    s.captureArrives m = s.onMaster m (MasterState.refuseEdge .queueFull) := by
  obtain ⟨t, ht⟩ := Option.ne_none_iff_exists'.mp ht
  simp [State.captureArrives, MasterState.attached_of_ne_none hs, ht, hfull]

theorem State.captureArrives_of_free {s : State} {m : Master} {t : Template} {i : Fin 8}
    (hs : (s.master m).session ≠ none) (ht : (s.master m).template = some t) (hfree : (s.master m).firstFree = some i) :
    s.captureArrives m = (s.enterSlot m i (t.request s.now)).arbitrate := by
  simp [State.captureArrives, MasterState.attached_of_ne_none hs, ht, hfree]

/-- Settles O25: the two rows by the last level, and an edge by the first condition that applies. -/
theorem captureEdgesAreSettled : Obligations.CaptureEdgesAreSettled := by
  unfold Obligations.CaptureEdgesAreSettled
  refine fun m s hold => ⟨?_, fun hc => ?_, fun hc hs => ?_, fun hc hs ht => ?_, fun hc hs ht hfull => ?_,
    fun t i hc hs ht hfree => ?_⟩
  · rw [exec_capFallingEdge hold, State.seeCap, if_neg (by simp)]
    rfl
  · have hsame : ({ s.master m with capLevel := .high } : MasterState) = s.master m := by rw [← hc]
    rw [exec_captureEdge hold, State.seeCap_high, hc, if_neg (by simp), State.onMaster, hsame, State.setMaster_self]
  all_goals rw [exec_captureEdge hold, State.seeCap_high, if_pos hc]
  · rw [State.captureArrives_of_detached (by rw [State.onMaster_master_same]; exact hs), State.onMaster_onMaster]
    rfl
  · rw [State.captureArrives_of_noTemplate (by simpa using hs) (by simpa using ht), State.onMaster_onMaster]
    rfl
  · have hfull' := MasterState.firstFree_of_full (x := { s.master m with capLevel := .high }) hfull
    rw [State.captureArrives_of_full (by simpa using hs) (by simpa using ht)
      (by rw [State.onMaster_master_same]; exact hfull'), State.onMaster_onMaster]
    rfl
  · have hfree' := MasterState.firstFree_of_lowestFree (x := { s.master m with capLevel := .high }) hfree
    rw [State.captureArrives_of_free (by simpa using hs) (by simpa using ht)
      (by rw [State.onMaster_master_same]; exact hfree'), State.enterSlot, State.onMaster_onMaster]
    rfl

end Sys2Proof.Machine
end

section
/-! PROOFS. The claim and the commands that need it (chapter 9), READ LANE, and the frames without a command (R139,
R140). -/

namespace Sys2Proof.Machine

/-! ### The claim -/

/-- Settles O32: CLAIM by the holder, RELEASE by whether the sender holds the claim. -/
theorem claimIsHeldByOneMasterAtATime : Obligations.ClaimIsHeldByOneMasterAtATime := by
  unfold Obligations.ClaimIsHeldByOneMasterAtATime
  refine ⟨fun m s hrec => ⟨fun hs => ?_, fun hs hc => ?_, fun h hs hc hne => ?_⟩,
    fun m s hrec => ⟨fun hs => ?_, fun hs hc => ?_, fun hs hc => ?_⟩⟩
  · have he : takeClaim m (s.renewed m) = (s.renewed m, .refuse .notAttached 1) := by
      simp [takeClaim, MasterState.attached_of_none hs]
    exact exec_command hrec rfl he
  · have he : takeClaim m (s.renewed m)
        = ({ s.renewed m with claim := some m }, .ok [BitVec.ofNat 8 (128 + m.val)]) := by
      rcases hc with hc | hc
      · simp [takeClaim, MasterState.attached_of_ne_none hs, hc, masterByte_some]
      · have hsame : ({ s.renewed m with claim := some m } : State) = s.renewed m := by
          rw [← hc]
          rfl
        rw [hsame]
        simp [takeClaim, MasterState.attached_of_ne_none hs, hc, masterByte_some]
    exact exec_command hrec rfl he
  · have he : takeClaim m (s.renewed m)
        = (s.renewed m, { status := .held, data := [BitVec.ofNat 8 (128 + h.val)] }) := by
      simp [takeClaim, MasterState.attached_of_ne_none hs, hc, masterByte_some, hne]
    exact exec_command hrec rfl he
  · have he : takeRelease m (s.renewed m) = (s.renewed m, .refuse .notAttached 0) := by
      simp [takeRelease, MasterState.attached_of_none hs]
    exact exec_command hrec rfl he
  · have he : takeRelease m (s.renewed m) = (s.renewed m, .refuse .noClaim 0) := by
      simp [takeRelease, MasterState.attached_of_ne_none hs, hc]
    exact exec_command hrec rfl he
  · have he : takeRelease m (s.renewed m) = ({ s.renewed m with claim := none }, .ok []) := by
      simp [takeRelease, MasterState.attached_of_ne_none hs, hc]
    exact exec_command hrec rfl he

section
variable {s : State} {m : Master} (n : Nat) (own : State × Reply)

/-- A claim-only command of a detached sender, whatever it would do (R163). -/
theorem State.underClaim_of_detached (hs : (s.master m).session = none) :
    (s.renewed m).underClaim m n own = (s.renewed m, .refuse .notAttached n) := by
  simp [State.underClaim, State.claimRefusal, MasterState.attached_of_none hs]

/-- A claim-only command of an attached sender without the claim, whatever it would do (R163). -/
theorem State.underClaim_of_noClaim (hs : (s.master m).session ≠ none) (hc : s.claim ≠ some m) :
    (s.renewed m).underClaim m n own = (s.renewed m, .refuse .noClaim n) := by
  simp [State.underClaim, State.claimRefusal, MasterState.attached_of_ne_none hs, hc]

/-- A claim-only command of the holder has its own effect (R163). -/
theorem State.underClaim_of_holder (hs : (s.master m).session ≠ none) (hc : s.claim = some m) :
    (s.renewed m).underClaim m n own = own := by
  simp [State.underClaim, State.claimRefusal, MasterState.attached_of_ne_none hs, hc]

end

/-- Settles O33: the two common checks come before any parameter is looked at. -/
theorem claimOnlyCommandsNeedTheClaim : Obligations.ClaimOnlyCommandsNeedTheClaim := by
  unfold Obligations.ClaimOnlyCommandsNeedTheClaim
  rintro m s c (⟨l, e, d, k, rfl⟩ | ⟨ls, rfl⟩ | ⟨src, d, rfl⟩ | ⟨ls, d, rfl⟩ | ⟨l, rfl⟩ | ⟨l, k, rfl⟩) hrec
  all_goals
    exact ⟨fun hs => exec_command hrec rfl (State.underClaim_of_detached _ _ hs),
      fun hs hc => exec_command hrec rfl (State.underClaim_of_noClaim _ _ hs hc)⟩

/-! ### Lane settings, the check-test arm, the tick source -/

theorem laneOf?_of_lt {b : Byte} {l : LaneId} (h : b.toNat = l.val) : laneOf? b = some l := by
  rw [laneOf?, dif_pos (h ▸ l.isLt)]
  exact congrArg some (Fin.ext h)

theorem laneOf?_of_ge {b : Byte} (h : 16 ≤ b.toNat) : laneOf? b = none := dif_neg (not_lt.mpr h)

/-- Settles O34: LANE SETUP by its lane and the places of that lane, TEST CHECK by its lane. -/
theorem laneSettingsAndTheArmAreStored : Obligations.LaneSettingsAndTheArmAreStored := by
  unfold Obligations.LaneSettingsAndTheArmAreStored
  refine ⟨fun m lane enable deadband keepalive s hrec hs hc => ⟨fun hl => ?_, fun l hl => ⟨fun hon hcap => ?_, fun hok => ?_⟩⟩,
    fun m lane s hrec hs hc => ⟨fun hl => ?_, fun l hl => ?_⟩⟩
  · have he : takeLaneSetup m lane enable deadband keepalive (s.renewed m) = (s.renewed m, .refuse .range 0) := by
      rw [takeLaneSetup, State.underClaim_of_holder _ _ hs hc, laneOf?_of_ge hl]
    exact exec_command hrec rfl he
  · have he : takeLaneSetup m lane enable deadband keepalive (s.renewed m) = (s.renewed m, .refuse .tooSmall 0) := by
      rw [takeLaneSetup, State.underClaim_of_holder _ _ hs hc, laneOf?_of_lt hl]
      refine if_pos (Bool.and_eq_true_iff.mpr ⟨hon, decide_eq_true ?_⟩)
      simpa using hcap
    exact exec_command hrec rfl he
  · have he : takeLaneSetup m lane enable deadband keepalive (s.renewed m)
        = ((s.renewed m).onLane l fun x =>
            { x with enabled := enableOf enable, deadband := deadband, keepalive := keepalive }, .ok []) := by
      rw [takeLaneSetup, State.underClaim_of_holder _ _ hs hc, laneOf?_of_lt hl]
      refine if_neg ?_
      rcases hok with hoff | hcap
      · rw [show enableOf enable = false from hoff]
        simp
      · rw [Bool.and_eq_true, decide_eq_true_eq]
        exact fun h => absurd h.2 (not_lt.mpr hcap)
    exact exec_command hrec rfl he
  · have he : takeTestCheck m lane (s.renewed m) = (s.renewed m, .refuse .range 0) := by
      rw [takeTestCheck, State.underClaim_of_holder _ _ hs hc, laneOf?_of_ge hl]
    exact exec_command hrec rfl he
  · have he : takeTestCheck m lane (s.renewed m) = ((s.renewed m).onLane l fun x => { x with checkArm := true }, .ok []) := by
      rw [takeTestCheck, State.underClaim_of_holder _ _ hs hc, laneOf?_of_lt hl]
    exact exec_command hrec rfl he

theorem sourceOf?_of_le {b : Byte} (h : b.toNat ≤ 1) : sourceOf? b = some (if b = 0 then .external else .divided) := by
  have hb : b = 0 ∨ b = 1 := by bv_omega
  rcases hb with rfl | rfl <;> rfl

theorem sourceOf?_of_gt {b : Byte} (h : 1 < b.toNat) : sourceOf? b = none := by
  rw [sourceOf?, if_neg (by rintro rfl; simp at h), if_neg (by rintro rfl; simp at h)]

/-- Settles O37: the holder's SET TICK SOURCE, and the count of 0 it leaves short of every divisor but 1. -/
theorem setTickSourceRestartsTheDivider : Obligations.SetTickSourceRestartsTheDivider := by
  unfold Obligations.SetTickSourceRestartsTheDivider
  intro m source divisor s hrec hs hc
  have hok : source.toNat ≤ 1 → exec (.setTickSource m source divisor) s = .next
      (({ s with
          tickSource := if source = 0 then .external else .divided
          divisor := if divisor = 0 then 65536 else divisor.toNat
          dividerCount := 0 } : State).reports m [0x00]) := fun hsrc => by
    have he : takeSetTickSource m source divisor (s.renewed m)
        = ({ s.renewed m with
              tickSource := if source = 0 then .external else .divided
              divisor := divisorOf divisor
              dividerCount := 0 }, .ok []) := by
      rw [takeSetTickSource, State.underClaim_of_holder _ _ hs hc, sourceOf?_of_le hsrc]
    exact exec_command hrec rfl he
  refine ⟨hok, fun hsrc => ?_, fun hsrc hlong t ht => ?_⟩
  · have he : takeSetTickSource m source divisor (s.renewed m) = (s.renewed m, .refuse .range 0) := by
      rw [takeSetTickSource, State.underClaim_of_holder _ _ hs hc, sourceOf?_of_gt hsrc]
    exact exec_command hrec rfl he
  · obtain rfl := Host.Outcome.next.inj ((hok hsrc).symm.trans ht)
    refine Eq.trans (exec_dividerExpiry ?_) (congrArg Host.Outcome.next (State.dividerReachesDivisor_of_not_due _ ?_))
    · exact hrec.1
    rcases hlong with rfl | hd
    · exact .inl rfl
    · right
      change 0 + 1 < if divisor = 0 then 65536 else divisor.toNat
      split
      · decide
      · bv_omega

/-! ### Emptying lanes and clearing counters -/

/-- A lane is named by the slots that name it (R81, R166). -/
theorem State.laneNamed_iff (s : State) (l : LaneId) :
    s.laneNamed l = true ↔ ∃ n i r, (s.master n).slot i = some r ∧ r.lanes.getLsbD l = true := by
  have hmasters : ∀ n : Master, n ∈ allMasters := by decide
  have hslots : ∀ i : SlotId, i ∈ allSlots := by decide
  simp [State.laneNamed, MasterState.namesLane, inSet, Option.any_eq_true, hmasters, hslots]

theorem State.laneNamed_eq_false_iff (s : State) (l : LaneId) :
    s.laneNamed l = false ↔ ∀ n i r, (s.master n).slot i = some r → r.lanes.getLsbD l = false := by
  rw [← Bool.not_eq_true, State.laneNamed_iff]
  simp

@[simp] theorem State.renewed_laneNamed (s : State) (m : Master) (l : LaneId) : (s.renewed m).laneNamed l = s.laneNamed l := by
  rw [Bool.eq_iff_iff, State.laneNamed_iff, State.laneNamed_iff]
  simp only [State.renewed_slot]

/-- The pool after a lane takes a new capacity (R15). -/
theorem State.freePool_setLane {s : State} {l : LaneId} {x : Lane}
    (hsum : (allLanes.map fun k => (s.lane k).capacity).sum ≤ 4096)
    (hroom : x.capacity ≤ (s.lane l).capacity + s.freePool) :
    (s.setLane l x).freePool
      = (s.lane l).capacity + (4096 - (allLanes.map fun k => (s.lane k).capacity).sum) - x.capacity := by
  have htotal := sum_capacities_setLane s l x
  rw [State.freePool, Config.recordPlaces] at *
  omega

section
variable {s : State} {m : Master} {lane : Byte} {l : LaneId} {capacity : Half}

/-- PARTITION of the holder, for a byte that names a lane and a capacity that is allowed: its checks in their order
(R167, R168). -/
theorem takePartition_of_lane (hs : (s.master m).session ≠ none) (hc : s.claim = some m) (hl : lane.toNat = l.val)
    (hcap : capacity.toNat = 0 ∨ (4 ≤ capacity.toNat ∧ capacity.toNat ≤ 2048)) :
    takePartition m lane capacity (s.renewed m) =
      if (s.lane l).enabled then (s.renewed m, .refuse .enabled 2)
      else if s.laneNamed l then (s.renewed m, .refuse .inUse 2)
      else if (s.lane l).capacity + s.freePool < capacity.toNat then
        (s.renewed m, { status := .noRoom, data := bytesOfCount s.freePool })
      else
        ((s.renewed m).onLane l fun x => { x.emptied with capacity := capacity.toNat },
          .ok (bytesOfCount ((s.renewed m).onLane l fun x => { x.emptied with capacity := capacity.toNat }).freePool)) := by
  have hallowed : capacityAllowed capacity.toNat = true := by
    simpa [capacityAllowed, Config.minCapacity, Config.maxCapacity] using hcap
  rw [takePartition, State.underClaim_of_holder _ _ hs hc, laneOf?_of_lt hl]
  simp only [hallowed, State.renewed_lane, State.renewed_laneNamed, State.renewed_freePool]
  rfl

end

/-- Settles O35: PARTITION by the first check that fails. -/
theorem partitionMovesPlaces : Obligations.PartitionMovesPlaces := by
  unfold Obligations.PartitionMovesPlaces
  intro m lane capacity s hrec hs hc
  refine ⟨fun hbad => ?_, fun l hl hcap => ?_⟩
  · have he : takePartition m lane capacity (s.renewed m) = (s.renewed m, .refuse .range 2) := by
      rw [takePartition, State.underClaim_of_holder _ _ hs hc]
      split
      · rfl
      next l hlane =>
        have hsmall : ¬ 16 ≤ lane.toNat := fun h => by simp [laneOf?_of_ge h] at hlane
        refine if_pos ?_
        simp only [capacityAllowed, Config.minCapacity, Config.maxCapacity]
        rcases hbad with h | ⟨h1, h2⟩ | h
        · exact absurd h hsmall
        · simp; omega
        · simp; omega
    exact exec_command hrec rfl he
  have he := takePartition_of_lane hs hc hl hcap
  have hfree : s.freePool = 4096 - (allLanes.map fun k => (s.lane k).capacity).sum := rfl
  refine ⟨fun hon => ?_, fun hoff hnamed => ?_, fun hoff hnamed hroom => ?_, fun hoff hnamed hsum hroom => ?_⟩
  · rw [if_pos hon] at he
    exact exec_command hrec rfl he
  all_goals rw [if_neg (by simp [hoff])] at he
  · rw [if_pos ((s.laneNamed_iff l).mpr hnamed)] at he
    exact exec_command hrec rfl he
  all_goals rw [if_neg (by simp [(s.laneNamed_eq_false_iff l).mpr hnamed])] at he
  · rw [hfree, if_pos hroom] at he
    exact exec_command hrec rfl he
  · rw [hfree, if_neg (not_lt.mpr hroom)] at he
    have hpool : ((s.renewed m).onLane l fun x => { x.emptied with capacity := capacity.toNat }).freePool
        = (s.lane l).capacity + (4096 - (allLanes.map fun k => (s.lane k).capacity).sum) - capacity.toNat :=
      State.freePool_setLane (s := s.renewed m) (x := { (s.lane l).emptied with capacity := capacity.toNat }) hsum hroom
    rw [hpool] at he
    exact exec_command hrec rfl he

/-- Settles O36: PURGE LANES by whether a lane of the set is named. -/
theorem purgeEmptiesAllOrNothing : Obligations.PurgeEmptiesAllOrNothing := by
  unfold Obligations.PurgeEmptiesAllOrNothing
  intro m lanes s hrec hs hc
  have hnamed : (lanesOf lanes).any (s.renewed m).laneNamed = true ↔ ∃ (l : LaneId) (n : Master) (i : SlotId) (r : Request),
      lanes.getLsbD l = true ∧ (s.master n).slot i = some r ∧ r.lanes.getLsbD l = true := by
    simp only [List.any_eq_true, mem_lanesOf, State.renewed_laneNamed, State.laneNamed_iff, exists_and_left]
  refine ⟨fun h => ?_, fun h => ?_⟩
  · have he : takePurgeLanes m lanes (s.renewed m) = (s.renewed m, .refuse .inUse 0) := by
      rw [takePurgeLanes, State.underClaim_of_holder _ _ hs hc, if_pos (hnamed.mpr h)]
    exact exec_command hrec rfl he
  · have hfree : ¬ (lanesOf lanes).any (s.renewed m).laneNamed = true := by
      rw [hnamed]
      rintro ⟨l, n, i, r, hl, hr, hin⟩
      exact absurd ((h l n i r hl hr).symm.trans hin) Bool.false_ne_true
    have he : takePurgeLanes m lanes (s.renewed m) = ((s.renewed m).onLanes lanes Lane.emptied, .ok []) := by
      rw [takePurgeLanes, State.underClaim_of_holder _ _ hs hc, if_neg hfree]
    exact ⟨s.onLanes lanes Lane.emptied, exec_command hrec rfl he, rfl, fun l => State.onLanes_lane ..⟩

theorem yesNoOf?_of_le {b : Byte} (h : b.toNat ≤ 1) : yesNoOf? b = some (decide (b = 1)) := by
  have hb : b = 0 ∨ b = 1 := by bv_omega
  rcases hb with rfl | rfl <;> rfl

theorem yesNoOf?_of_gt {b : Byte} (h : 1 < b.toNat) : yesNoOf? b = none := by
  rw [yesNoOf?, if_neg (by rintro rfl; simp at h), if_neg (by rintro rfl; simp at h)]

/-- Settles O38: CLEAR COUNTERS by its second byte. -/
theorem clearCountersClearsWhatIsNamed : Obligations.ClearCountersClearsWhatIsNamed := by
  unfold Obligations.ClearCountersClearsWhatIsNamed
  intro m lanes device s hrec hs hc
  refine ⟨fun hd => ?_, fun hd => ?_⟩
  · have he : takeClearCounters m lanes device (s.renewed m) = (s.renewed m, .refuse .range 0) := by
      rw [takeClearCounters, State.underClaim_of_holder _ _ hs hc, yesNoOf?_of_gt hd]
    exact exec_command hrec rfl he
  by_cases h1 : device = 1
  · have he : takeClearCounters m lanes device (s.renewed m)
        = (((s.renewed m).onLanes lanes Lane.clearCounters).clearLinkCounters, .ok []) := by
      rw [takeClearCounters, State.underClaim_of_holder _ _ hs hc, yesNoOf?_of_le hd]
      simp [h1]
    refine ⟨(s.onLanes lanes Lane.clearCounters).clearLinkCounters, exec_command hrec rfl he, by simp only [if_pos h1]; rfl,
      fun l => State.onLanes_lane ..⟩
  · have he : takeClearCounters m lanes device (s.renewed m)
        = ((s.renewed m).onLanes lanes Lane.clearCounters, .ok []) := by
      rw [takeClearCounters, State.underClaim_of_holder _ _ hs hc, yesNoOf?_of_le hd]
      rw [decide_eq_false h1]
      rfl
    refine ⟨s.onLanes lanes Lane.clearCounters, exec_command hrec rfl he, by simp only [if_neg h1]; rfl,
      fun l => State.onLanes_lane ..⟩

/-! ### READ LANE -/

/-- The lane byte in numbers (R184). -/
theorem laneByte_eq (x : Lane) (p : Option Nat) :
    laneByte x p = BitVec.ofNat 8 (bit x.enabled + 2 * bit (!x.records.isEmpty) + 4 * bit (!x.records.isEmpty)
      + 8 * bit p.isSome + 16 * bit x.openGap.isSome + 32 * bit x.lossMark) := by
  have hbits : ∀ a b c d e : Bool,
      (0 : BitVec 2) ++ BitVec.ofBool e ++ BitVec.ofBool d ++ BitVec.ofBool c ++ BitVec.ofBool b ++ BitVec.ofBool b
          ++ BitVec.ofBool a
        = BitVec.ofNat 8 (bit a + 2 * bit b + 4 * bit b + 8 * bit c + 16 * bit d + 32 * bit e) := by decide
  exact hbits ..

/-- The protect age does not look at a lease (R23). -/
theorem State.renewed_protectAge (s : State) (m : Master) (l : LaneId) : (s.renewed m).protectAge l = s.protectAge l := by
  have hsame : ∀ n, ((s.renewed m).master n).contributions s.now l = (s.master n).contributions s.now l := fun n => by
    have hsession : ((s.renewed m).master n).session.bind (Session.contribution l)
        = (s.master n).session.bind (Session.contribution l) := by
      by_cases h : n = m
      · subst h
        rw [State.renewed_master_same]
        cases (s.master n).session <;> rfl
      · rw [State.renewed_master_other s m n h]
    simp only [MasterState.contributions, hsession, State.renewed_slot]
  simp only [State.protectAge, State.renewed_now, hsame]

/-- Settles O47: the report of a lane, its bytes in numbers. -/
theorem readLaneReportsTheLane : Obligations.ReadLaneReportsTheLane := by
  unfold Obligations.ReadLaneReportsTheLane
  refine fun m lane s hrec => ⟨fun hl => ?_, ?_⟩
  · have he : takeReadLane lane (s.renewed m) = (s.renewed m, .refuse .range 36) := by
      rw [takeReadLane, laneOf?_of_ge hl]
    exact exec_command hrec rfl he
  · rintro l x hl rfl
    have he : takeReadLane lane (s.renewed m) = (s.renewed m, .ok (s.laneReport l)) := by
      rw [takeReadLane, laneOf?_of_lt hl]
      simp only [State.laneReport, State.renewed_lane, State.renewed_protectAge]
    refine (exec_command hrec rfl he).trans ?_
    have hhead : ((s.lane l).records.head?.map Record.key).getD 0
        = match (s.lane l).records.head? with | some r => r.key | none => 0 := by
      cases (s.lane l).records.head? <;> rfl
    have hlast : ((s.lane l).records.getLast?.map Record.key).getD 0
        = match (s.lane l).records.getLast? with | some r => r.key | none => 0 := by
      cases (s.lane l).records.getLast? <;> rfl
    have hage : bytesOfLong ((s.protectAge l).getD 0)
        = bytesOfTag (match s.protectAge l with | some p => BitVec.ofNat 24 p | none => 0) := by
      cases s.protectAge l <;> rfl
    have hgap : ∀ rest, bytesOfTag (((s.lane l).openGap.map OpenGap.firstLost).getD 0)
          ++ (bytesOfTag (((s.lane l).openGap.map OpenGap.lastLost).getD 0)
          ++ (bytesOfHalf (((s.lane l).openGap.map OpenGap.lostCount).getD 0) ++ rest))
        = (match (s.lane l).openGap with
          | some g => bytesOfTag g.firstLost ++ bytesOfTag g.lastLost ++ bytesOfHalf g.lostCount
          | none => List.replicate 8 (0 : Byte)) ++ rest := fun rest => by
      cases (s.lane l).openGap <;> rfl
    simp only [State.laneReport, laneByte_eq, List.append_assoc, hgap]
    rw [hhead, hlast, hage]
    rfl

/-! ### Frames without a command -/

/-- Settles O39: a frame with a bad sum is counted, and one of an unknown code only answered. -/
theorem badAndUnknownFramesOnlyAnswer : Obligations.BadAndUnknownFramesOnlyAnswer := by
  unfold Obligations.BadAndUnknownFramesOnlyAnswer
  refine fun m s => ⟨fun frame hsize hsum hrec => ?_, fun code hcode hrec => ?_⟩
  · have hform : (badCheckFrameForm frame && s.canTake m frame) = true := by
      rw [Bool.and_eq_true, badCheckFrameForm, hsize, State.canTake_iff]
      exact ⟨by simpa using hsum, hrec⟩
    rw [exec, execBadCheckFrame, if_pos hform, State.takenBad, State.answer, State.onMaster_onMaster]
    rw [State.answered, State.setMaster_setMaster, State.setMaster_master_same]
    rfl
  · have hcheck : checkByte [code] = 0 - code := by simp [checkByte, byteSum]
    have hform : (!knownCode code && s.canTake m [code, checkByte [code]]) = true := by
      rw [Bool.and_eq_true, hcode, hcheck, State.canTake_iff]
      exact ⟨rfl, hrec⟩
    rw [exec, execUnknownCodeFrame, if_pos hform]
    rfl

end Sys2Proof.Machine
end

section
/-! PROOFS. Command frames and the events of a port (chapter 8, R129, R182): what the bytes of a frame spell, the
bytes of an answer, the selections, and the taking of a frame by its check byte. -/

namespace Sys2Proof.Machine

/-! ### The sum of a frame (R139) -/

theorem byteSum_eq_sum (bs : List Byte) : byteSum bs = bs.sum := List.sum_eq_foldl.symm

/-- The check byte is the one byte that brings the sum of a frame to 0. -/
theorem byteSum_append_eq_zero_iff (bs : List Byte) (b : Byte) : byteSum (bs ++ [b]) = 0 ↔ b = checkByte bs := by
  rw [byteSum_eq_sum, checkByte, byteSum_eq_sum, List.sum_append, List.sum_singleton, zero_sub]
  exact add_eq_zero_iff_neg_eq.trans eq_comm

theorem byteSum_frame (c : Command) : byteSum c.frame = 0 := (byteSum_append_eq_zero_iff _ _).mpr rfl

/-! ### Fields of two and three bytes (R182) -/

@[simp] theorem halfOfBytes_hiByte_loByte (x : Half) : halfOfBytes (hiByte x) (loByte x) = x :=
  (BitVec.extractLsb'_append_extractLsb'_eq_extractLsb' (by rfl : 8 = 0 + 8)).trans BitVec.extractLsb'_eq_self

@[simp] theorem bytesOfHalf_halfOfBytes (a b : Byte) : bytesOfHalf (halfOfBytes a b) = [a, b] := by
  have hhi : hiByte (halfOfBytes a b) = a := BitVec.extractLsb'_append_eq_left
  have hlo : loByte (halfOfBytes a b) = b := BitVec.extractLsb'_append_eq_right
  rw [bytesOfHalf, hhi, hlo]

@[simp] theorem tagOfBytes_extractLsb' (x : BitVec 24) :
    tagOfBytes (x.extractLsb' 16 8) (x.extractLsb' 8 8) (x.extractLsb' 0 8) = x := by
  have hhigh : x.extractLsb' 16 8 ++ x.extractLsb' 8 8 = x.extractLsb' 8 16 :=
    BitVec.extractLsb'_append_extractLsb'_eq_extractLsb' (by rfl : 16 = 8 + 8)
  rw [tagOfBytes, hhigh]
  exact (BitVec.extractLsb'_append_extractLsb'_eq_extractLsb' (by rfl : 8 = 0 + 8)).trans BitVec.extractLsb'_eq_self

@[simp] theorem bytesOfTag_tagOfBytes (a b c : Byte) : bytesOfTag (tagOfBytes a b c) = [a, b, c] := by
  have hhigh : (tagOfBytes a b c).extractLsb' 16 8 = a :=
    (BitVec.extractLsb'_append_eq_of_le (by decide)).trans BitVec.extractLsb'_append_eq_left
  have hmid : (tagOfBytes a b c).extractLsb' 8 8 = b :=
    (BitVec.extractLsb'_append_eq_of_le (by decide)).trans BitVec.extractLsb'_append_eq_right
  have hlow : (tagOfBytes a b c).extractLsb' 0 8 = c := BitVec.extractLsb'_append_eq_right
  rw [bytesOfTag, hhigh, hmid, hlow]

/-! ### Codes and parameters (R182) -/

theorem paramCount_code (c : Command) : paramCount c.code = some c.params.length := by cases c <;> rfl

theorem wellSizedFrame_frame (c : Command) : wellSizedFrame c.frame = true := by
  simp [Command.frame, wellSizedFrame, frameLength, paramCount_code]

/-- The code and parameter bytes of a command spell that command. -/
theorem decodeCommand_params (c : Command) : decodeCommand c.code c.params = some c := by
  cases c <;>
    simp [decodeCommand, Command.code, Command.params, noParams, oneByte, attachParams, submitWindowParams,
      setTemplateParams, laneSetupParams, partitionParams, purgeLanesParams, setTickSourceParams, clearCountersParams,
      bytesOfHalf, bytesOfTag]

theorem decodeFrame_frame (c : Command) : decodeFrame c.frame = some c := by
  rw [Command.frame, List.cons_append, decodeFrame, List.dropLast_concat, decodeCommand_params]

/-- Settles O9. -/
theorem framesDecodeToTheirCommand : Obligations.FramesDecodeToTheirCommand := by
  unfold Obligations.FramesDecodeToTheirCommand
  exact fun c => ⟨byteSum_frame c, wellSizedFrame_frame c, decodeFrame_frame c⟩

/-- An unknown code spells no command. -/
theorem decodeCommand_of_unknown {code : Byte} (h : knownCode code = false) (ps : List Byte) :
    decodeCommand code ps = none := by
  unfold knownCode paramCount at h
  unfold decodeCommand
  split at h <;> simp_all

/-- The parameter bytes behind a code spell a command of that code that carries exactly them. -/
def Spells (code : Byte) (ps : List Byte) : Prop := ∃ c, decodeCommand code ps = some c ∧ c.code = code ∧ c.params = ps

section
variable {code : Byte} {ps : List Byte}

theorem spells_noParams (c : Command) (hread : ∀ qs, decodeCommand c.code qs = noParams c qs) (hc : c.params = [])
    (hcode : code.toNat = c.code.toNat) (h : some 0 = some ps.length) : Spells code ps := by
  obtain rfl := BitVec.eq_of_toNat_eq hcode
  obtain rfl := List.eq_nil_of_length_eq_zero (Option.some.inj h).symm
  exact ⟨c, hread _, rfl, hc⟩

theorem spells_oneByte (f : Byte → Command) {k : Byte} (hread : ∀ qs, decodeCommand k qs = oneByte f qs)
    (hf : ∀ a, (f a).code = k ∧ (f a).params = [a]) (hcode : code.toNat = k.toNat) (h : some 1 = some ps.length) :
    Spells code ps := by
  obtain rfl := BitVec.eq_of_toNat_eq hcode
  obtain ⟨a, rfl⟩ := List.length_eq_one_iff.mp (Option.some.inj h).symm
  exact ⟨f a, hread _, hf a⟩

theorem spells_attach (hcode : code.toNat = 0x10) (h : some 7 = some ps.length) : Spells code ps := by
  obtain rfl := BitVec.eq_of_toNat_eq (y := 0x10) hcode
  match ps, h with
  | [_, _, _, _, _, _, _], _ => exact ⟨_, rfl, rfl, by simp [Command.params]⟩

theorem spells_submitWindow (hcode : code.toNat = 0x20) (h : some 13 = some ps.length) : Spells code ps := by
  obtain rfl := BitVec.eq_of_toNat_eq (y := 0x20) hcode
  match ps, h with
  | [_, _, _, _, _, _, _, _, _, _, _, _, _], _ => exact ⟨_, rfl, rfl, by simp [Command.params]⟩

theorem spells_setTemplate (hcode : code.toNat = 0x28) (h : some 12 = some ps.length) : Spells code ps := by
  obtain rfl := BitVec.eq_of_toNat_eq (y := 0x28) hcode
  match ps, h with
  | [_, _, _, _, _, _, _, _, _, _, _, _], _ => exact ⟨_, rfl, rfl, by simp [Command.params]⟩

theorem spells_laneSetup (hcode : code.toNat = 0x52) (h : some 6 = some ps.length) : Spells code ps := by
  obtain rfl := BitVec.eq_of_toNat_eq (y := 0x52) hcode
  match ps, h with
  | [_, _, _, _, _, _], _ => exact ⟨_, rfl, rfl, by simp [Command.params]⟩

theorem spells_partition (hcode : code.toNat = 0x53) (h : some 3 = some ps.length) : Spells code ps := by
  obtain rfl := BitVec.eq_of_toNat_eq (y := 0x53) hcode
  match ps, h with
  | [_, _, _], _ => exact ⟨_, rfl, rfl, by simp [Command.params]⟩

theorem spells_purgeLanes (hcode : code.toNat = 0x54) (h : some 2 = some ps.length) : Spells code ps := by
  obtain rfl := BitVec.eq_of_toNat_eq (y := 0x54) hcode
  match ps, h with
  | [_, _], _ => exact ⟨_, rfl, rfl, by simp [Command.params]⟩

theorem spells_setTickSource (hcode : code.toNat = 0x55) (h : some 3 = some ps.length) : Spells code ps := by
  obtain rfl := BitVec.eq_of_toNat_eq (y := 0x55) hcode
  match ps, h with
  | [_, _, _], _ => exact ⟨_, rfl, rfl, by simp [Command.params]⟩

theorem spells_clearCounters (hcode : code.toNat = 0x56) (h : some 3 = some ps.length) : Spells code ps := by
  obtain rfl := BitVec.eq_of_toNat_eq (y := 0x56) hcode
  match ps, h with
  | [_, _, _], _ => exact ⟨_, rfl, rfl, by simp [Command.params]⟩

/-- Parameters as many as the code gives spell a command that carries them (R182). -/
theorem decodeCommand_spells (h : paramCount code = some ps.length) : Spells code ps := by
  unfold paramCount at h
  split at h
  · exact spells_attach ‹_› h
  · exact spells_noParams .detach (fun _ => rfl) rfl ‹_› h
  · exact spells_noParams .keep (fun _ => rfl) rfl ‹_› h
  · exact spells_noParams .resetPort (fun _ => rfl) rfl ‹_› h
  · exact spells_noParams .readDevice (fun _ => rfl) rfl ‹_› h
  · exact spells_submitWindow ‹_› h
  · exact spells_oneByte .cancel (fun _ => rfl) (fun _ => ⟨rfl, rfl⟩) ‹_› h
  · exact spells_oneByte .querySlot (fun _ => rfl) (fun _ => ⟨rfl, rfl⟩) ‹_› h
  · exact spells_setTemplate ‹_› h
  · exact spells_noParams .clearTemplate (fun _ => rfl) rfl ‹_› h
  · exact spells_oneByte .readItems (fun _ => rfl) (fun _ => ⟨rfl, rfl⟩) ‹_› h
  · exact spells_oneByte .setWatermark (fun _ => rfl) (fun _ => ⟨rfl, rfl⟩) ‹_› h
  · exact spells_oneByte .readLane (fun _ => rfl) (fun _ => ⟨rfl, rfl⟩) ‹_› h
  · exact spells_noParams .readFlags (fun _ => rfl) rfl ‹_› h
  · exact spells_oneByte .ackFlags (fun _ => rfl) (fun _ => ⟨rfl, rfl⟩) ‹_› h
  · exact spells_oneByte .setMask (fun _ => rfl) (fun _ => ⟨rfl, rfl⟩) ‹_› h
  · exact spells_noParams .claim (fun _ => rfl) rfl ‹_› h
  · exact spells_noParams .release (fun _ => rfl) rfl ‹_› h
  · exact spells_laneSetup ‹_› h
  · exact spells_partition ‹_› h
  · exact spells_purgeLanes ‹_› h
  · exact spells_setTickSource ‹_› h
  · exact spells_clearCounters ‹_› h
  · exact spells_oneByte .testCheck (fun _ => rfl) (fun _ => ⟨rfl, rfl⟩) ‹_› h
  · exact absurd h (by simp)

end

/-- Settles O10: the parameters spell the command, and the sum leaves one check byte. -/
theorem goodFramesAreTheirCommandsFrames : Obligations.GoodFramesAreTheirCommandsFrames := by
  unfold Obligations.GoodFramesAreTheirCommandsFrames
  intro code rest hknown hsize hsum
  obtain ⟨n, hn⟩ := Option.isSome_iff_exists.mp hknown
  have hlen : rest.length = n + 1 := by simpa [wellSizedFrame, frameLength, hn] using hsize
  obtain ⟨ps, b, rfl⟩ := (List.eq_nil_or_concat' rest).resolve_left (List.ne_nil_of_length_eq_add_one hlen)
  obtain ⟨c, hspelt, rfl, rfl⟩ := decodeCommand_spells (code := code) (ps := ps) (by
    rw [hn, Nat.add_right_cancel ((List.length_append ..).symm.trans hlen)])
  have hcheck := (byteSum_append_eq_zero_iff (c.code :: c.params) b).mp hsum
  exact ⟨c, by rw [decodeFrame, List.dropLast_concat, hspelt], by rw [Command.frame, hcheck]; rfl⟩

/-! ### The taking of a frame by its check byte (R138, R139, R140) -/

section
variable {s : State} {m : Master} {got : List Byte} {b : Byte} (hold : s.resetHold = false)
  (hf : (s.master m).frame = .receiving got)
include hf

theorem State.receiveByte_of_short (hshort : (got ++ [b]).length < frameLength ((got ++ [b]).headD 0)) :
    s.receiveByte m b = s.setMaster m { s.master m with frame := .receiving (got ++ [b]), sdo := some 0 } := by
  simp only [State.receiveByte, hf]
  exact if_pos hshort

/-- The byte that completes a frame takes it. -/
theorem State.receiveByte_of_whole (hsize : wellSizedFrame (got ++ [b]) = true) :
    s.receiveByte m b = s.takeFrame m (got ++ [b]) := by
  have hlen : (got ++ [b]).length = frameLength ((got ++ [b]).headD 0) := by
    cases got <;> simpa [wellSizedFrame] using hsize
  simp only [State.receiveByte, hf]
  exact if_neg (by omega)

include hold

/-- A port that has all of a frame but its last byte can receive it. -/
theorem State.canTake_of_all_but_one : s.canTake m (got ++ [b]) = true :=
  (s.canTake_iff m _).mpr ⟨hold, got, hf, List.prefix_append .., by simp⟩

end

theorem State.receiveByte_of_not_receiving {s : State} {m : Master} (h : ∀ got, (s.master m).frame ≠ .receiving got)
    (b : Byte) : s.receiveByte m b = s := by
  unfold State.receiveByte
  split
  · exact absurd ‹_› (h _)
  all_goals rfl

/-- Settles O12: the completing byte by what the whole frame is, an earlier byte, a byte no frame takes. -/
theorem bytesGatherUntilTheCheckByte : Obligations.BytesGatherUntilTheCheckByte := by
  unfold Obligations.BytesGatherUntilTheCheckByte
  refine ⟨fun m got b s hold hf hsize => ?_, fun m b s hold => ⟨fun got hf hshort => ?_, fun hf => ?_⟩,
    fun m c s hnot => ?_⟩
  · have htake : s.canTake m (got ++ [b]) = true := State.canTake_of_all_but_one hold hf
    rw [exec_byteReceived hold, State.receiveByte_of_whole hf hsize]
    refine ⟨fun hsum => ?_, fun code hgot hcode hsum => ?_, fun c hframe => ?_⟩
    · have hform : badCheckFrameForm (got ++ [b]) = true := by
        rw [badCheckFrameForm, hsize, bne_iff_ne.mpr hsum]
        rfl
      rw [exec, execBadCheckFrame, hform, htake, State.takeFrame, if_pos hsum]
      rfl
    · subst hgot
      have hcheck : b = checkByte [code] := (byteSum_append_eq_zero_iff [code] b).mp hsum
      have hnone : decodeFrame ([code] ++ [b]) = none := decodeCommand_of_unknown hcode _
      rw [exec, execUnknownCodeFrame, hcode, ← hcheck, show [code, b] = [code] ++ [b] from rfl, htake, State.takeFrame,
        if_neg (not_not.mpr hsum), hnone]
      rfl
    · rw [exec_rowOf, State.command, hframe, if_pos htake, State.takeFrame, ← hframe,
        if_neg (not_not.mpr (byteSum_frame c)), decodeFrame_frame]
  · rw [exec_byteReceived hold, State.receiveByte_of_short hf hshort]
  · rw [exec_byteReceived hold, State.receiveByte_of_not_receiving hf]
  · rw [exec_rowOf, State.command, if_neg (mt (s.canTake_iff m _).mp hnot)]

/-! ### Selections (R131, R137, R141) -/

/-- Settles O40: a selection by the frame state it finds. -/
theorem selectionsBeginAndEnd : Obligations.SelectionsBeginAndEnd := by
  unfold Obligations.SelectionsBeginAndEnd
  refine fun m s hold => ⟨fun hf => ?_, fun hf => ?_, fun b got hf => ?_, fun hf => ?_⟩
  · rw [exec_selectionBegin hold, State.beginSelection, hf]
    rfl
  · rw [exec_selectionBegin hold, State.beginSelection]
    cases h : (s.master m).frame with
    | deselected => exact absurd h hf
    | receiving | answering | trailing => rfl
  · rw [exec_selectionEnd hold, State.endSelection, State.onMaster, hf]
  · have hcount : (match (s.master m).frame with
        | .receiving (_ :: _) => bump (s.master m).frameErrors
        | .receiving [] | .answering _ | .trailing | .deselected => (s.master m).frameErrors) = (s.master m).frameErrors := by
      split
      · exact absurd ‹_› (hf _ _)
      all_goals rfl
    rw [exec_selectionEnd hold]
    exact congrArg (fun n => Host.Outcome.next (s.setMaster m { s.master m with
      frame := .deselected, sdo := none, reading := none, frameErrors := n })) hcount

/-! ### The bytes of an answer (R129, R130, R142) -/

theorem Item.bytes_length (it : Item) : it.bytes.length = 6 := rfl

theorem Item.bytes_getD (it : Item) {k : Nat} (h : k < 6) : some (it.bytes.getD k 0) = it.bytes[k]? := by
  rw [List.getElem?_eq_getElem (it.bytes_length ▸ h), List.getD_eq_getElem _ _ (it.bytes_length ▸ h)]

section
variable {s : State} {m : Master} {a : Answer} {it : Item} {rest : List Item}

/-- A byte that does not end a group leaves the buffer as it is. -/
theorem State.shiftByte_of_within (h : a.endsGroup = false) :
    s.shiftByte m a = s.setMaster m { s.master m with
      sdo := some (a.nextByte (s.master m).items)
      frame := if a.shifted + 1 < a.head.length + 6 * a.groups then .answering { a with shifted := a.shifted + 1 } else .trailing
      reading := if a.shifted + 1 < a.head.length + 6 * a.groups then (s.master m).reading else none } := by
  simp only [State.shiftByte, h]
  rfl

/-- The sixth byte of a group takes the oldest item out of the buffer (R129). -/
theorem State.shiftByte_of_endsGroup (h : a.endsGroup = true) (hitems : (s.master m).items = it :: rest) :
    s.shiftByte m a = (s.setMaster m { s.master m with
      sdo := some (a.nextByte (s.master m).items)
      items := rest
      frame := if a.shifted + 1 < a.head.length + 6 * a.groups then .answering { a with shifted := a.shifted + 1 } else .trailing
      reading := if a.shifted + 1 < a.head.length + 6 * a.groups then
          (s.master m).reading.map fun p => { p with removed := p.removed + 1 }
        else none }).arbitrate := by
  have htail : (s.master m).items.tail = rest := by rw [hitems]; rfl
  simp only [State.shiftByte, h, ← htail]
  rfl

/-- Behind the bytes composed at the taking come those of the oldest item, six at a time. -/
theorem Answer.nextByte_of_group (hcut : a.cut = false) (hk : a.head.length ≤ a.shifted) :
    some (a.nextByte (it :: rest)) = it.bytes[(a.shifted - a.head.length) % 6]? := by
  rw [← it.bytes_getD (Nat.mod_lt _ (by decide)), Answer.nextByte, if_neg (by simp [hcut]), List.getElem?_eq_none hk]
  rfl

theorem Answer.endsGroup_iff : a.endsGroup = true ↔
    a.cut = false ∧ a.head.length ≤ a.shifted ∧ (a.shifted - a.head.length) % 6 = 5 := by
  simp [Answer.endsGroup, and_assoc]

end

/-- Settles O27: the byte clocked out by the frame state of the port and the place in its answer. -/
theorem answerBytesAreShiftedInOrder : Obligations.AnswerBytesAreShiftedInOrder := by
  unfold Obligations.AnswerBytesAreShiftedInOrder
  refine fun m s hold => ⟨fun hf => ?_, fun hf => ?_, fun a hf hlast => ⟨fun b hb => ?_, fun it rest hcut hk hitems =>
    ⟨fun hin => ?_, fun hend => ?_⟩⟩⟩
  · rw [exec_answerByteShifted hold, State.clockByteOut, hf]
  · rw [exec_answerByteShifted hold, State.clockByteOut]
    obtain hf | ⟨got, hf⟩ := hf <;> rw [hf] <;> rfl
  all_goals rw [exec_answerByteShifted hold, State.clockByteOut, hf]; dsimp only
  · have hwithin : a.endsGroup = false := by
      rw [← Bool.not_eq_true, Answer.endsGroup_iff]
      rintro ⟨hcut, hlen, _⟩
      obtain ⟨hcut', _⟩ | ⟨_, hhead⟩ := hb
      · simp [hcut] at hcut'
      · simp [List.getElem?_eq_none hlen] at hhead
    have hbyte : a.nextByte (s.master m).items = b := by
      obtain ⟨hcut, rfl⟩ | ⟨hcut, hhead⟩ := hb <;> simp [Answer.nextByte, *]
    rw [State.shiftByte_of_within hwithin, hbyte]
  · have hwithin : a.endsGroup = false := by
      rw [← Bool.not_eq_true, Answer.endsGroup_iff]
      omega
    have hmore : a.shifted + 1 < a.head.length + 6 * a.groups := by omega
    rw [State.shiftByte_of_within hwithin, hitems, Answer.nextByte_of_group hcut hk, if_pos hmore, if_pos hmore, ← hitems]
  · rw [State.shiftByte_of_endsGroup (Answer.endsGroup_iff.mpr ⟨hcut, hk, hend⟩) hitems, hitems,
      Answer.nextByte_of_group hcut hk, hend]

/-- Settles O28: the sixth byte of the group under way, or no group left. -/
theorem itemRemovalTakesTheOldest : Obligations.ItemRemovalTakesTheOldest := by
  unfold Obligations.ItemRemovalTakesTheOldest
  refine fun m s a hold hf hcut => ⟨fun it rest hitems hleft => ?_, fun hdone => ?_⟩
  · have hsixth : (a.head.length + 6 * a.groupsDone + 5 - a.head.length) % 6 = 5 := by omega
    have hbehind : a.head.length ≤ a.head.length + 6 * a.groupsDone + 5 := by omega
    have hnext : a.head.length + 6 * a.groupsDone + 5 + 1 = a.head.length + 6 * (a.groupsDone + 1) := by omega
    have hmore : (a.head.length + 6 * (a.groupsDone + 1) < a.head.length + 6 * a.groups) = (a.groupsDone + 1 < a.groups) := by
      rw [eq_iff_iff]
      omega
    have hform : (!a.cut && decide (a.groupsDone < a.groups)) = true := by
      rw [hcut, Bool.not_false, Bool.true_and]
      exact decide_eq_true hleft
    have hends : Answer.endsGroup { a with shifted := a.head.length + 6 * a.groupsDone + 5 } = true :=
      Answer.endsGroup_iff.mpr ⟨hcut, hbehind, hsixth⟩
    have hsdo := Answer.nextByte_of_group (a := { a with shifted := a.head.length + 6 * a.groupsDone + 5 }) (it := it)
      (rest := rest) hcut hbehind
    rw [exec_itemRemoval hold, State.finishGroup, hf]
    dsimp only
    rw [if_pos hform, State.shiftByte_of_endsGroup hends hitems, hitems, hsdo]
    simp only [hsixth, hnext, hmore]
    rfl
  · rw [exec_itemRemoval hold, State.finishGroup, hf]
    refine congrArg _ (if_neg ?_)
    rw [Bool.and_eq_true, decide_eq_true_eq]
    exact fun h => absurd h.2 (not_lt.mpr hdone)

end Sys2Proof.Machine
end

section
/-! PROOFS. A frame received byte by byte (R138, R139): no taking looks at the bytes its own port has received, so
the row of a command from the newly selected port and the taking at the check byte end in one state. -/

namespace Sys2Proof.Machine

/-! ### A port with other bytes received -/

/-- Port `m` with another frame state and another byte on SDO; nothing else changed. -/
def State.withPort (s : State) (m : Master) (f : FrameState) (d : Option Byte) : State :=
  s.onMaster m fun x => { x with frame := f, sdo := d }

theorem State.setMaster_comm (s : State) {m n : Master} (h : n ≠ m) (x y : MasterState) :
    (s.setMaster m x).setMaster n y = (s.setMaster n y).setMaster m x := by
  have hval : m.val ≠ n.val := fun he => h (Fin.ext he.symm)
  simp only [State.setMaster, Vector.set_comm _ _ hval]

section
variable (s : State) (m n : Master) (f : FrameState) (d : Option Byte)

@[simp] theorem State.withPort_now : (s.withPort m f d).now = s.now := rfl
@[simp] theorem State.withPort_claim : (s.withPort m f d).claim = s.claim := rfl
@[simp] theorem State.withPort_serving : (s.withPort m f d).serving = s.serving := rfl
@[simp] theorem State.withPort_resetHold : (s.withPort m f d).resetHold = s.resetHold := rfl
@[simp] theorem State.withPort_urgentPtr : (s.withPort m f d).urgentPtr = s.urgentPtr := rfl
@[simp] theorem State.withPort_normalPtr : (s.withPort m f d).normalPtr = s.normalPtr := rfl
@[simp] theorem State.withPort_lane (l : LaneId) : (s.withPort m f d).lane l = s.lane l := rfl
@[simp] theorem State.withPort_freePool : (s.withPort m f d).freePool = s.freePool := rfl
@[simp] theorem State.withPort_search (i : SlotId) (r : Request) : (s.withPort m f d).search i r = s.search i r := rfl

/-- Nothing of a master but its frame state and SDO can tell. -/
theorem State.withPort_master : (s.withPort m f d).master n =
    { s.master n with frame := ((s.withPort m f d).master n).frame, sdo := ((s.withPort m f d).master n).sdo } := by
  by_cases h : n = m
  · subst h
    simp [State.withPort]
  · simp [State.withPort, State.onMaster_master, h]

@[simp] theorem State.withPort_session : ((s.withPort m f d).master n).session = (s.master n).session := by
  rw [State.withPort_master]
@[simp] theorem State.withPort_items : ((s.withPort m f d).master n).items = (s.master n).items := by
  rw [State.withPort_master]
@[simp] theorem State.withPort_template : ((s.withPort m f d).master n).template = (s.master n).template := by
  rw [State.withPort_master]
@[simp] theorem State.withPort_frameErrors : ((s.withPort m f d).master n).frameErrors = (s.master n).frameErrors := by
  rw [State.withPort_master]
@[simp] theorem State.withPort_badChecks : ((s.withPort m f d).master n).badChecks = (s.master n).badChecks := by
  rw [State.withPort_master]
@[simp] theorem State.withPort_attached : ((s.withPort m f d).master n).attached = (s.master n).attached := by
  rw [State.withPort_master]; rfl
@[simp] theorem State.withPort_leaseRemaining :
    ((s.withPort m f d).master n).leaseRemaining = (s.master n).leaseRemaining := by
  rw [State.withPort_master]; rfl
@[simp] theorem State.withPort_slot (i : SlotId) : ((s.withPort m f d).master n).slot i = (s.master n).slot i := by
  rw [State.withPort_master]; rfl
@[simp] theorem State.withPort_firstFree : ((s.withPort m f d).master n).firstFree = (s.master n).firstFree := by
  rw [State.withPort_master]; rfl
@[simp] theorem State.withPort_candidate (c : ReqClass) :
    ((s.withPort m f d).master n).candidate c = (s.master n).candidate c := by
  rw [State.withPort_master]; rfl
@[simp] theorem State.withPort_contributions (now : Tag) (l : LaneId) :
    ((s.withPort m f d).master n).contributions now l = (s.master n).contributions now l := by
  rw [State.withPort_master]; rfl
@[simp] theorem State.withPort_namesLane (l : LaneId) :
    ((s.withPort m f d).master n).namesLane l = (s.master n).namesLane l := by
  rw [State.withPort_master]; rfl
@[simp] theorem State.withPort_flagsReport : ((s.withPort m f d).master n).flagsReport = (s.master n).flagsReport := by
  rw [State.withPort_master]; rfl
@[simp] theorem State.withPort_flagsByte_ackFlags (set : Byte) :
    (((s.withPort m f d).master n).ackFlags set).flagsByte = ((s.master n).ackFlags set).flagsByte := by
  rw [State.withPort_master]; rfl

/-- A change of a master that goes past its frame state and SDO. -/
theorem State.withPort_onMaster {g : MasterState → MasterState}
    (hg : ∀ x : MasterState, g { x with frame := f, sdo := d } = { g x with frame := f, sdo := d }) :
    (s.withPort m f d).onMaster n g = (s.onMaster n g).withPort m f d := by
  by_cases h : n = m
  · subst h
    rw [State.withPort, State.withPort, State.onMaster_onMaster, State.onMaster_onMaster]
    exact congrArg _ (funext hg)
  · have hother : (s.withPort m f d).master n = s.master n := State.setMaster_master_other s _ h
    have hsame : (s.onMaster n g).master m = s.master m := State.setMaster_master_other s _ (Ne.symm h)
    rw [State.onMaster, hother, State.withPort, State.withPort, State.onMaster, State.onMaster, hsame]
    exact State.setMaster_comm _ h ..

/-- The answer composed at a taking replaces the frame state and SDO (R142). -/
theorem State.withPort_answer (r : Reply) : (s.withPort m f d).answer m r = s.answer m r := by
  rw [State.withPort, State.answer, State.onMaster_onMaster]
  rfl

/-! ### The engine does not look at the ports -/

theorem State.withPort_serve (i : SlotId) (r : Request) (v : Flight) :
    (s.withPort m f d).serve n i r v = (s.serve n i r v).withPort m f d := by
  rw [State.serve, State.withPort_onMaster _ _ _ _ _ (fun _ => rfl)]
  rfl

theorem State.withPort_nextItem (i : SlotId) (r : Request) :
    (s.withPort m f d).nextItem n i r = (s.nextItem n i r).withPort m f d := by
  rw [State.nextItem, State.nextItem, State.withPort_search]
  cases s.search i r with
  | none => exact s.withPort_serve ..
  | some v =>
    dsimp only
    split <;> exact s.withPort_serve ..

theorem State.withPort_select (i : SlotId) : (s.withPort m f d).select n i = (s.select n i).withPort m f d := by
  rw [State.select, State.select, State.withPort_slot]
  cases (s.master n).slot i with
  | none => rfl
  | some r =>
    dsimp only
    cases r.ending with
    | some e => exact s.withPort_serve ..
    | none =>
      dsimp only
      split
      · exact s.withPort_nextItem ..
      · exact s.withPort_serve ..

theorem State.withPort_pick (c : ReqClass) (p : Master) : (s.withPort m f d).pick c p = s.pick c p := by
  simp only [State.pick, State.withPort_candidate]

theorem State.withPort_arbitrate : (s.withPort m f d).arbitrate = s.arbitrate.withPort m f d := by
  rw [State.arbitrate, State.arbitrate, State.withPort_resetHold, State.withPort_serving, State.withPort_urgentPtr,
    State.withPort_normalPtr, State.withPort_pick, State.withPort_pick]
  split
  · rfl
  cases s.pick .urgent s.urgentPtr with
  | some w => exact State.withPort_select { s with urgentPtr := w.1 } ..
  | none =>
    cases s.pick .normal s.normalPtr with
    | some w => exact State.withPort_select { s with normalPtr := w.1 } ..
    | none => rfl

theorem State.withPort_sessionEnd (why : EndReason) :
    (s.withPort m f d).sessionEnd m why = (s.sessionEnd m why).withPort m f.cutReadItems d := by
  have hmaster : (s.withPort m f d).onMaster m (MasterState.endSession why)
      = (s.onMaster m (MasterState.endSession why)).withPort m f.cutReadItems d := by
    rw [State.withPort, State.withPort, State.onMaster_onMaster, State.onMaster_onMaster]
    rfl
  rw [State.sessionEnd, hmaster]
  rfl

theorem State.withPort_protectAge (l : LaneId) : (s.withPort m f d).protectAge l = s.protectAge l := by
  simp only [State.protectAge, State.withPort_contributions, State.withPort_now]

theorem State.withPort_laneNamed : (s.withPort m f d).laneNamed = s.laneNamed := by
  funext l
  simp only [State.laneNamed, State.withPort_namesLane]

end

/-! ### No taking looks at its port -/

/-- Two outcomes of a taking that agree in the reply, and in the state but for port `m`. -/
def SameButPort (m : Master) (p q : State × Reply) : Prop := q.2 = p.2 ∧ ∃ f d, q.1 = p.1.withPort m f d

theorem SameButPort.mk {m : Master} {t t' : State} {r : Reply} {f : FrameState} {d : Option Byte}
    (h : t' = t.withPort m f d) : SameButPort m (t, r) (t', r) := ⟨rfl, f, d, h⟩

section
variable (s : State) (m : Master) (f : FrameState) (d : Option Byte)

/-- A taking that only answers. -/
theorem sameButPort_answer (r : Reply) : SameButPort m (s, r) (s.withPort m f d, r) := .mk rfl

/-- A taking that changes its master past the port. -/
theorem sameButPort_onMaster {g : MasterState → MasterState} (r : Reply)
    (hg : ∀ x : MasterState, g { x with frame := f, sdo := d } = { g x with frame := f, sdo := d }) :
    SameButPort m (s.onMaster m g, r) ((s.withPort m f d).onMaster m g, r) := .mk (s.withPort_onMaster m m f d hg)

theorem takeAttach_sameButPort (h : Half) (w : LaneSet) (l : BitVec 24) :
    SameButPort m (takeAttach m h w l s) (takeAttach m h w l (s.withPort m f d)) := by
  rw [takeAttach, takeAttach, State.withPort_attached]
  split
  · exact sameButPort_answer ..
  split
  · exact sameButPort_answer ..
  · exact sameButPort_onMaster _ _ _ _ _ fun _ => rfl

theorem takeDetach_sameButPort : SameButPort m (takeDetach m s) (takeDetach m (s.withPort m f d)) := by
  rw [takeDetach, takeDetach, State.withPort_attached]
  split
  · exact .mk (by rw [State.withPort_sessionEnd, State.withPort_arbitrate])
  · exact sameButPort_answer ..

theorem takeKeep_sameButPort (n : Nat) : SameButPort m (takeKeep m n s) (takeKeep m n (s.withPort m f d)) := by
  rw [takeKeep, takeKeep, State.withPort_attached]
  exact sameButPort_answer ..

theorem takeResetPort_sameButPort : SameButPort m (takeResetPort m s) (takeResetPort m (s.withPort m f d)) := by
  rw [takeResetPort, takeResetPort, State.withPort_attached]
  split
  · exact .mk (by rw [State.withPort_sessionEnd, State.withPort_onMaster _ _ _ _ _ (fun _ => rfl), State.withPort_arbitrate])
  · exact .mk (by rw [State.withPort_onMaster _ _ _ _ _ (fun _ => rfl), State.withPort_arbitrate])

theorem State.withPort_deviceReport : (s.withPort m f d).deviceReport m = s.deviceReport m := by
  simp only [State.deviceReport, State.attachedSet, State.withPort_attached, State.withPort_frameErrors,
    State.withPort_badChecks]
  rfl

theorem takeReadDevice_sameButPort : SameButPort m (takeReadDevice m s) (takeReadDevice m (s.withPort m f d)) := by
  rw [takeReadDevice, takeReadDevice, State.withPort_deviceReport]
  exact sameButPort_answer ..

theorem State.withPort_enterSlot (i : SlotId) (r : Request) :
    (s.withPort m f d).enterSlot m i r = (s.enterSlot m i r).withPort m f d :=
  s.withPort_onMaster m m f d fun _ => rfl

theorem takeSubmitWindow_sameButPort (t : Tag) (pre post : Half) (ls : LaneSet) (c : Byte) (b : Half) (lab : Byte) :
    SameButPort m (takeSubmitWindow m t pre post ls c b lab s)
      (takeSubmitWindow m t pre post ls c b lab (s.withPort m f d)) := by
  rw [takeSubmitWindow, takeSubmitWindow, State.withPort_session, State.withPort_firstFree, State.withPort_now]
  cases (s.master m).session with
  | none => exact sameButPort_answer ..
  | some x =>
    dsimp only
    iterate 4
      split
      · exact sameButPort_answer ..
    cases (s.master m).firstFree with
    | none => exact sameButPort_answer ..
    | some i => exact .mk (by rw [State.withPort_enterSlot, State.withPort_arbitrate])

theorem takeCancel_sameButPort (i : Byte) : SameButPort m (takeCancel m i s) (takeCancel m i (s.withPort m f d)) := by
  rw [takeCancel, takeCancel, State.withPort_attached]
  split
  · exact sameButPort_answer ..
  cases slotOf? i with
  | none => exact sameButPort_answer ..
  | some i =>
    dsimp only
    rw [State.withPort_slot]
    cases (s.master m).slot i with
    | none => exact sameButPort_answer ..
    | some r =>
      dsimp only
      cases r.ending with
      | some e => exact sameButPort_answer ..
      | none => exact .mk (by rw [State.withPort_onMaster _ _ _ _ _ (fun _ => rfl), State.withPort_arbitrate])

theorem takeQuerySlot_sameButPort (i : Byte) :
    SameButPort m (takeQuerySlot m i s) (takeQuerySlot m i (s.withPort m f d)) := by
  rw [takeQuerySlot, takeQuerySlot, State.withPort_attached]
  split
  · exact sameButPort_answer ..
  cases slotOf? i with
  | none => exact sameButPort_answer ..
  | some i =>
    dsimp only
    rw [State.withPort_slot]
    exact sameButPort_answer ..

theorem takeSetTemplate_sameButPort (lag pre post : Half) (ls : LaneSet) (c : Byte) (b : Half) (lab : Byte) :
    SameButPort m (takeSetTemplate m lag pre post ls c b lab s)
      (takeSetTemplate m lag pre post ls c b lab (s.withPort m f d)) := by
  rw [takeSetTemplate, takeSetTemplate, State.withPort_session]
  cases (s.master m).session with
  | none => exact sameButPort_answer ..
  | some x =>
    dsimp only
    iterate 3
      split
      · exact sameButPort_answer ..
    exact sameButPort_onMaster _ _ _ _ _ fun _ => rfl

theorem takeClearTemplate_sameButPort :
    SameButPort m (takeClearTemplate m s) (takeClearTemplate m (s.withPort m f d)) := by
  rw [takeClearTemplate, takeClearTemplate, State.withPort_attached, State.withPort_template]
  split
  · exact sameButPort_answer ..
  · exact sameButPort_onMaster _ _ _ _ _ fun _ => rfl

theorem takeReadItems_sameButPort (n : Byte) :
    SameButPort m (takeReadItems m n s) (takeReadItems m n (s.withPort m f d)) := by
  rw [takeReadItems, takeReadItems, State.withPort_attached, State.withPort_items]
  split
  · exact sameButPort_answer ..
  split
  · exact sameButPort_answer ..
  · exact sameButPort_onMaster _ _ _ _ _ fun _ => rfl

theorem takeSetWatermark_sameButPort (w : Byte) :
    SameButPort m (takeSetWatermark m w s) (takeSetWatermark m w (s.withPort m f d)) := by
  rw [takeSetWatermark, takeSetWatermark]
  split
  · exact sameButPort_answer ..
  · exact sameButPort_onMaster _ _ _ _ _ fun _ => rfl

theorem State.withPort_laneReport (l : LaneId) : (s.withPort m f d).laneReport l = s.laneReport l := by
  simp only [State.laneReport, State.withPort_protectAge, State.withPort_lane]

theorem takeReadLane_sameButPort (l : Byte) : SameButPort m (takeReadLane l s) (takeReadLane l (s.withPort m f d)) := by
  rw [takeReadLane, takeReadLane]
  cases laneOf? l with
  | none => exact sameButPort_answer ..
  | some l =>
    dsimp only
    rw [State.withPort_laneReport]
    exact sameButPort_answer ..

theorem takeReadFlags_sameButPort : SameButPort m (takeReadFlags m s) (takeReadFlags m (s.withPort m f d)) := by
  rw [takeReadFlags, takeReadFlags, State.withPort_flagsReport]
  exact sameButPort_answer ..

theorem takeAckFlags_sameButPort (set : Byte) :
    SameButPort m (takeAckFlags m set s) (takeAckFlags m set (s.withPort m f d)) := by
  rw [takeAckFlags, takeAckFlags, State.withPort_flagsByte_ackFlags]
  exact sameButPort_onMaster _ _ _ _ _ fun _ => rfl

theorem takeClaim_sameButPort : SameButPort m (takeClaim m s) (takeClaim m (s.withPort m f d)) := by
  rw [takeClaim, takeClaim, State.withPort_attached, State.withPort_claim]
  split
  · exact sameButPort_answer ..
  cases s.claim with
  | none => exact .mk rfl
  | some h =>
    dsimp only
    split <;> exact sameButPort_answer ..

theorem takeRelease_sameButPort : SameButPort m (takeRelease m s) (takeRelease m (s.withPort m f d)) := by
  rw [takeRelease, takeRelease, State.withPort_attached, State.withPort_claim]
  split
  · exact sameButPort_answer ..
  split
  · exact .mk rfl
  · exact sameButPort_answer ..

theorem State.underClaim_sameButPort (n : Nat) {own own' : State × Reply} (h : SameButPort m own own') :
    SameButPort m (s.underClaim m n own) ((s.withPort m f d).underClaim m n own') := by
  rw [State.underClaim, State.underClaim, State.claimRefusal, State.claimRefusal, State.withPort_attached,
    State.withPort_claim]
  split
  · exact sameButPort_answer ..
  · exact h

theorem takeLaneSetup_sameButPort (l e : Byte) (dead keep : Half) :
    SameButPort m (takeLaneSetup m l e dead keep s) (takeLaneSetup m l e dead keep (s.withPort m f d)) := by
  refine s.underClaim_sameButPort m f d _ ?_
  cases laneOf? l with
  | none => exact sameButPort_answer ..
  | some l =>
    dsimp only
    rw [State.withPort_lane]
    split
    · exact sameButPort_answer ..
    · exact .mk rfl

theorem takePartition_sameButPort (l : Byte) (c : Half) :
    SameButPort m (takePartition m l c s) (takePartition m l c (s.withPort m f d)) := by
  refine s.underClaim_sameButPort m f d _ ?_
  cases laneOf? l with
  | none => exact sameButPort_answer ..
  | some l =>
    dsimp only
    rw [State.withPort_lane, State.withPort_laneNamed, State.withPort_freePool]
    iterate 4
      split
      · exact sameButPort_answer ..
    exact .mk rfl

theorem takePurgeLanes_sameButPort (ls : LaneSet) :
    SameButPort m (takePurgeLanes m ls s) (takePurgeLanes m ls (s.withPort m f d)) := by
  refine s.underClaim_sameButPort m f d _ ?_
  rw [State.withPort_laneNamed]
  split
  · exact sameButPort_answer ..
  · exact .mk rfl

theorem takeSetTickSource_sameButPort (src : Byte) (div : Half) :
    SameButPort m (takeSetTickSource m src div s) (takeSetTickSource m src div (s.withPort m f d)) := by
  refine s.underClaim_sameButPort m f d _ ?_
  cases sourceOf? src with
  | none => exact sameButPort_answer ..
  | some _ => exact .mk rfl

theorem takeClearCounters_sameButPort (ls : LaneSet) (dev : Byte) :
    SameButPort m (takeClearCounters m ls dev s) (takeClearCounters m ls dev (s.withPort m f d)) := by
  refine s.underClaim_sameButPort m f d _ ?_
  cases yesNoOf? dev with
  | none => exact sameButPort_answer ..
  | some too => cases too <;> exact .mk rfl

theorem takeTestCheck_sameButPort (l : Byte) :
    SameButPort m (takeTestCheck m l s) (takeTestCheck m l (s.withPort m f d)) := by
  refine s.underClaim_sameButPort m f d _ ?_
  cases laneOf? l with
  | none => exact sameButPort_answer ..
  | some _ => exact .mk rfl

end

/-- An effect that does not look at the port of its sender is taken the same from every frame state. -/
theorem State.taken_withPort {m : Master} {effect effect' : State → State × Reply} (s : State) (f : FrameState)
    (d : Option Byte) (h : ∀ t f d, SameButPort m (effect t) (effect' (State.withPort t m f d))) :
    (s.withPort m f d).taken m effect' = s.taken m effect := by
  obtain ⟨hreply, f', d', hstate⟩ := h (s.onMaster m MasterState.renewLease) f d
  rw [State.taken, State.withPort_onMaster _ _ _ _ _ (fun _ => rfl), hreply, hstate, State.withPort_answer]
  rfl

/-- The taking of a command does not depend on the bytes its port has received (R138). -/
theorem State.take_withPort (s : State) (m : Master) (f : FrameState) (d : Option Byte) (c : Command) :
    (s.withPort m f d).take m c = s.take m c := by
  cases c with
  | attach h w l => exact s.taken_withPort f d fun t f d => takeAttach_sameButPort t m f d h w l
  | detach => exact s.taken_withPort f d fun t f d => takeDetach_sameButPort t m f d
  | keep =>
    rw [State.take, State.take, State.withPort_leaseRemaining]
    exact s.taken_withPort f d fun t f d => takeKeep_sameButPort t m f d _
  | resetPort => exact s.taken_withPort f d fun t f d => takeResetPort_sameButPort t m f d
  | readDevice => exact s.taken_withPort f d fun t f d => takeReadDevice_sameButPort t m f d
  | submitWindow t pre post ls c b lab =>
    exact s.taken_withPort f d fun u f d => takeSubmitWindow_sameButPort u m f d t pre post ls c b lab
  | cancel i => exact s.taken_withPort f d fun t f d => takeCancel_sameButPort t m f d i
  | querySlot i => exact s.taken_withPort f d fun t f d => takeQuerySlot_sameButPort t m f d i
  | setTemplate lag pre post ls c b lab =>
    exact s.taken_withPort f d fun t f d => takeSetTemplate_sameButPort t m f d lag pre post ls c b lab
  | clearTemplate => exact s.taken_withPort f d fun t f d => takeClearTemplate_sameButPort t m f d
  | readItems n => exact s.taken_withPort f d fun t f d => takeReadItems_sameButPort t m f d n
  | setWatermark w => exact s.taken_withPort f d fun t f d => takeSetWatermark_sameButPort t m f d w
  | readLane l => exact s.taken_withPort f d fun t f d => takeReadLane_sameButPort t m f d l
  | readFlags => exact s.taken_withPort f d fun t f d => takeReadFlags_sameButPort t m f d
  | ackFlags set => exact s.taken_withPort f d fun t f d => takeAckFlags_sameButPort t m f d set
  | setMask mask => exact s.taken_withPort f d fun t f d => sameButPort_onMaster t m f d _ fun _ => rfl
  | claim => exact s.taken_withPort f d fun t f d => takeClaim_sameButPort t m f d
  | release => exact s.taken_withPort f d fun t f d => takeRelease_sameButPort t m f d
  | laneSetup l e dead keep => exact s.taken_withPort f d fun t f d => takeLaneSetup_sameButPort t m f d l e dead keep
  | partition l c => exact s.taken_withPort f d fun t f d => takePartition_sameButPort t m f d l c
  | purgeLanes ls => exact s.taken_withPort f d fun t f d => takePurgeLanes_sameButPort t m f d ls
  | setTickSource src div => exact s.taken_withPort f d fun t f d => takeSetTickSource_sameButPort t m f d src div
  | clearCounters ls dev => exact s.taken_withPort f d fun t f d => takeClearCounters_sameButPort t m f d ls dev
  | testCheck l => exact s.taken_withPort f d fun t f d => takeTestCheck_sameButPort t m f d l

/-! ### The frame byte by byte -/

/-- The bytes received and those still to come make the frame of a command: the bytes to come end in its taking. -/
theorem runAll_bytes {s : State} {m : Master} {c : Command} (hold : s.resetHold = false) :
    ∀ (rest got : List Byte) (d : Option Byte), got ++ rest = c.frame → rest ≠ [] →
      runAll (rest.map (.byteReceived m)) (s.withPort m (.receiving got) d) = .next (s.take m c)
  | [], _, _, _, hne => absurd rfl hne
  | b :: rest, got, d, hframe, _ => by
    have hlen : c.frame.length = frameLength c.code := by simp [Command.frame, frameLength, paramCount_code]
    have hcode : (got ++ [b]).headD 0 = c.code := by
      cases got with
      | nil => exact (List.cons.inj hframe).1
      | cons a got => exact (List.cons.inj hframe).1
    have hport : ((s.withPort m (.receiving got) d).master m).frame = .receiving got := by simp [State.withPort]
    have hexec : exec (.byteReceived m b) (s.withPort m (.receiving got) d)
        = .next ((s.withPort m (.receiving got) d).receiveByte m b) := exec_byteReceived (s := s.withPort m _ d) hold b
    rw [List.map_cons, runAll, hexec]
    dsimp only
    cases rest with
    | nil =>
      have hwhole : wellSizedFrame (got ++ [b]) = true := hframe ▸ wellSizedFrame_frame c
      rw [State.receiveByte_of_whole hport hwhole, State.takeFrame, hframe, if_neg (not_not.mpr (byteSum_frame c)),
        decodeFrame_frame]
      exact congrArg _ (s.take_withPort m _ _ c)
    | cons b' rest =>
      have hshort : (got ++ [b]).length < frameLength ((got ++ [b]).headD 0) := by
        rw [hcode, ← hlen, ← hframe]
        simp
      have hnext : (s.withPort m (.receiving got) d).receiveByte m b = s.withPort m (.receiving (got ++ [b])) (some 0) := by
        rw [State.receiveByte_of_short hport hshort]
        simp [State.withPort, State.onMaster]
      rw [hnext]
      exact runAll_bytes hold (b' :: rest) (got ++ [b]) (some 0) (by simpa using hframe) (List.cons_ne_nil _ _)

/-- Settles O11: the run over the bytes ends in the taking the row gives. -/
theorem bytesOfAFrameTakeItsCommand : Obligations.BytesOfAFrameTakeItsCommand := by
  unfold Obligations.BytesOfAFrameTakeItsCommand
  intro m c s hold hf
  have hsame : s.withPort m (.receiving []) (s.master m).sdo = s := by
    rw [State.withPort, State.onMaster, ← hf]
    exact State.setMaster_self ..
  have hrec : s.Receives m c.frame := ⟨hold, [], hf, List.nil_prefix, by simp [Command.frame]⟩
  have hrun := runAll_bytes (m := m) (c := c) hold c.frame [] (s.master m).sdo rfl (by simp [Command.frame])
  rw [hsame] at hrun
  rw [hrun, exec_rowOf, State.command, if_pos ((s.canTake_iff m _).mpr hrec)]

end Sys2Proof.Machine
end

section
/-! PROOFS. The acquisition link (chapter 3), the layout of items (R186), and protection (R23, R24). -/

namespace Sys2Proof.Machine

/-! ### The bits of a sample frame (R48, R185) -/

theorem frameOfBits_concat (bits : List Bool) (b : Bool) :
    frameOfBits (bits ++ [b]) = frameOfBits bits <<< 1 ||| (BitVec.ofBool b).setWidth 22 := by
  rw [frameOfBits, List.foldl_append]
  rfl

/-- The first `k` bits sent make the number of the frame's `k` high bits. -/
theorem frameOfBits_prefix (f : BitVec 22) : ∀ k ≤ 22, frameOfBits ((List.range k).map f.getMsbD) = f >>> (22 - k)
  | 0, _ => (BitVec.ushiftRight_eq_zero (Nat.le_refl _)).symm
  | k + 1, h => by
    rw [List.range_succ, List.map_append, List.map_singleton, frameOfBits_concat, frameOfBits_prefix f k (by omega)]
    apply BitVec.eq_of_getLsbD_eq
    intro i hi
    have hbit : f.getMsbD k = f.getLsbD (21 - k) := by simp [BitVec.getMsbD, show k < 22 by omega]
    rcases Nat.eq_zero_or_pos i with rfl | hpos
    · simp [hbit, show 22 - (k + 1) = 21 - k by omega]
    · have hplace : 22 - k + (i - 1) = 22 - (k + 1) + i := by omega
      simp [hi, hplace, show ¬ i < 1 by omega, show i ≠ 0 by omega]

/-- The bits of a frame make that frame. -/
theorem frameOfBits_bitsOfFrame (f : BitVec 22) : frameOfBits (bitsOfFrame f) = f := by
  rw [bitsOfFrame, frameOfBits_prefix f 22 (Nat.le_refl _)]
  simp

theorem foldl_xor_eq (bits : List Bool) (b : Bool) :
    bits.foldl Bool.xor b = (b ^^ decide (bits.countP id % 2 = 1)) := by
  induction bits generalizing b with
  | nil => simp
  | cons a bits ih =>
    rw [List.foldl_cons, ih]
    have hparity : decide ((bits.countP id + 1) % 2 = 1) = !decide (bits.countP id % 2 = 1) := by
      rw [← decide_not, decide_eq_decide]
      omega
    cases a <;> cases b <;> simp [hparity]

/-- A frame is good when it holds an odd number of ones (R48). -/
theorem frameOddParity_eq (f : BitVec 22) :
    frameOddParity f = decide ((List.range 22).countP f.getLsbD % 2 = 1) := by
  have hmsb : ∀ k ∈ List.range 22, f.getMsbD k = f.getLsbD (21 - k) := fun k hk => by
    simp [BitVec.getMsbD, List.mem_range.mp hk]
  have hbits : bitsOfFrame f = (List.range 22).reverse.map f.getLsbD := by
    rw [bitsOfFrame, List.map_congr_left hmsb]
    rfl
  rw [frameOddParity, foldl_xor_eq, hbits, List.countP_map, List.countP_reverse, Bool.false_xor]
  rfl

theorem frameLane_eq {f : BitVec 22} {l : LaneId} (h : l.val = f.toNat / 262144) : frameLane f = l := by
  have hlt := f.isLt
  refine Fin.ext ?_
  simp only [frameLane, BitVec.val_toFin, BitVec.extractLsb'_toNat, Nat.shiftRight_eq_div_pow, h]
  omega

/-! ### The arrival of a frame (R47 to R51) -/

section
variable {s : State} {q : Level} {f : BitVec 22}

theorem State.canComplete_iff : s.canComplete q f = true ↔
    s.assembly = .idle ∧ s.qsynLevel = .low
      ∨ ∃ got, s.assembly = .assembling got ∧ got <+: bitsOfFrame f ∧ got.length < 22
          ∧ ¬ (s.qsynLevel = .low ∧ q = .high) := by
  unfold State.canComplete
  cases s.assembly with
  | idle => simp
  | assembling got =>
    simp only [Bool.and_eq_true, Bool.not_eq_true', List.isPrefixOf_iff_prefix, decide_eq_true_eq, Config.frameBits,
      Assembly.assembling.injEq, exists_eq_left', and_assoc, reduceCtorEq, false_and, false_or, Bool.and_eq_false_iff,
      beq_eq_false_iff_ne, not_and_or, ne_eq]

theorem exec_sampleFrameArrival_of_canComplete (hold : s.resetHold = false) (h : s.canComplete q f = true) :
    exec (.sampleFrameArrival q f) s = .next (({ s with assembly := .idle, qsynLevel := q } : State).frameArrives f) := by
  rw [exec_sampleFrameArrival hold, if_pos h]

theorem State.frameArrives_of_even (h : frameOddParity f = false) :
    s.frameArrives f = { s with parityErrors := bump s.parityErrors } := by
  simp [State.frameArrives, h]

theorem State.frameArrives_of_disabled (h : frameOddParity f = true) (hl : (s.lane (frameLane f)).enabled = false) :
    s.frameArrives f = { s with disabledDiscards := bump s.disabledDiscards } := by
  simp [State.frameArrives, h, hl]

theorem State.frameArrives_of_full (h : frameOddParity f = true) (hl : (s.lane (frameLane f)).enabled = true)
    (hq : 16 ≤ s.queue.length) : s.frameArrives f =
      { s.onLane (frameLane f) (fun x => { x with lossMark := true }) with queueOverflows := bump s.queueOverflows } := by
  simp [State.frameArrives, h, hl, Config.queueDepth, hq]

theorem State.frameArrives_of_room (h : frameOddParity f = true) (hl : (s.lane (frameLane f)).enabled = true)
    (hq : s.queue.length < 16) : s.frameArrives f =
      { s with queue := s.queue ++ [⟨frameLane f, frameValue f, frameForce f, s.now⟩] } := by
  simp [State.frameArrives, h, hl, Config.queueDepth, Nat.not_le.mpr hq]

end

/-- Settles O41: the arriving frame by its parity, its lane and the room in the queue. -/
theorem sampleFramesAreJudged : Obligations.SampleFramesAreJudged := by
  unfold Obligations.SampleFramesAreJudged
  intro s q f l hold hl hform
  obtain rfl := frameLane_eq hl
  rw [exec_sampleFrameArrival_of_canComplete hold (State.canComplete_iff.mpr hform)]
  have heven : (List.range 22).countP f.getLsbD % 2 = 0 → frameOddParity f = false := fun h => by
    rw [frameOddParity_eq, h]
    rfl
  have hodd : (List.range 22).countP f.getLsbD % 2 = 1 → frameOddParity f = true := fun h => by
    rw [frameOddParity_eq, h]
    rfl
  refine ⟨fun h => ?_, fun h hoff => ?_, fun h hon hfull => ?_, fun h hon hroom => ?_⟩
  · rw [State.frameArrives_of_even (heven h)]
  · exact congrArg Host.Outcome.next (State.frameArrives_of_disabled (hodd h) hoff)
  · exact congrArg Host.Outcome.next (State.frameArrives_of_full (hodd h) hon hfull)
  · exact congrArg Host.Outcome.next (State.frameArrives_of_room (hodd h) hon hroom)

/-! ### The edges of QCLK (R44 to R46) -/

section
variable {s : State} {q : Level} {d : Bool} {bits : List Bool}

theorem State.qclkEdge_sync_of_idle (hq : s.qsynLevel = .low) (ha : s.assembly = .idle) :
    s.qclkEdge .high d = { s with qsynLevel := .high, assembly := .assembling [d] } := by
  simp [State.qclkEdge, hq, ha]

theorem State.qclkEdge_sync_of_assembling (hq : s.qsynLevel = .low) (ha : s.assembly = .assembling bits) :
    s.qclkEdge .high d =
      { s with qsynLevel := .high, assembly := .assembling [d], framingErrors := bump s.framingErrors } := by
  simp [State.qclkEdge, hq, ha]

section
variable (hq : ¬ (s.qsynLevel = .low ∧ q = .high))
include hq

theorem State.qclkEdge_of_idle (ha : s.assembly = .idle) : s.qclkEdge q d = { s with qsynLevel := q } := by
  rw [State.qclkEdge, if_neg hq, ha]

theorem State.qclkEdge_of_short (ha : s.assembly = .assembling bits) (h : bits.length < 21) :
    s.qclkEdge q d = { s with qsynLevel := q, assembly := .assembling (bits ++ [d]) } := by
  rw [State.qclkEdge, if_neg hq, ha]
  exact if_pos (Nat.add_lt_add_right h 1)

/-- The 22nd bit completes the frame (R45). -/
theorem State.qclkEdge_of_last {f : BitVec 22} (ha : s.assembly = .assembling bits) (hf : bitsOfFrame f = bits ++ [d]) :
    s.qclkEdge q d = ({ s with assembly := .idle, qsynLevel := q } : State).frameArrives f := by
  have hlen : bits.length + 1 = 22 := by
    have := congrArg List.length hf
    simpa [bitsOfFrame] using this.symm
  rw [State.qclkEdge, if_neg hq, ha]
  dsimp only
  rw [if_neg (by rw [hlen]; decide), ← hf, frameOfBits_bitsOfFrame]

end
end

/-- Settles O42: an edge by whether it is a sync edge and how many bits are assembled. -/
theorem clockEdgesAssembleFrames : Obligations.ClockEdgesAssembleFrames := by
  unfold Obligations.ClockEdgesAssembleFrames
  intro s q d hold
  refine ⟨rfl, rfl, fun hq ha => ?_, fun bits hq ha => ?_, fun hq => ?_⟩
  · rw [exec_frameStart hold, State.qclkEdge_sync_of_idle hq ha]
  · rw [exec_partialFrameDiscard hold, State.qclkEdge_sync_of_assembling hq ha]
  have hnosync : ¬ (s.qsynLevel = .low ∧ q = .high) := by
    rcases hq with h | h <;> simp [h]
  rw [exec_linkBitSampled hold]
  refine ⟨fun ha => ?_, fun bits ha hshort => ?_, fun bits f ha hf => ?_⟩
  · rw [State.qclkEdge_of_idle hnosync ha]
  · rw [State.qclkEdge_of_short hnosync ha hshort]
  · have hlen : bits.length + 1 = 22 := by
      have := congrArg List.length hf
      simpa [bitsOfFrame] using this.symm
    have hcomplete : s.canComplete q f = true :=
      State.canComplete_iff.mpr (.inr ⟨bits, ha, ⟨[d], hf.symm⟩, by omega, hnosync⟩)
    rw [State.qclkEdge_of_last hnosync ha hf, exec_sampleFrameArrival_of_canComplete hold hcomplete]

/-- The bits assembled and those still to come make a frame: the edges to come end in its arrival. -/
theorem runAll_bits {f : BitVec 22} : ∀ (rest got : List Bool) (s : State), s.resetHold = false →
    s.assembly = .assembling got → got ++ rest = bitsOfFrame f → rest ≠ [] →
      runAll (rest.map (.linkBitSampled .low)) s
        = .next (({ s with assembly := .idle, qsynLevel := .low } : State).frameArrives f)
  | [], _, _, _, _, _, hne => absurd rfl hne
  | b :: rest, got, s, hold, ha, hf, _ => by
    have hnosync : ¬ (s.qsynLevel = .low ∧ Level.low = .high) := by simp
    rw [List.map_cons, runAll, exec_linkBitSampled hold]
    cases rest with
    | nil =>
      rw [State.qclkEdge_of_last hnosync ha hf.symm]
      rfl
    | cons b' rest =>
      have hlen : got.length < 21 := by
        have := congrArg List.length hf
        simp [bitsOfFrame] at this
        omega
      rw [State.qclkEdge_of_short hnosync ha hlen]
      exact runAll_bits (b' :: rest) (got ++ [b]) { s with qsynLevel := .low, assembly := .assembling (got ++ [b]) } hold rfl
        (by simpa using hf) (List.cons_ne_nil _ _)

/-- Settles O13: the sync edge starts the frame, the run over the other bits ends in its arrival. -/
theorem linkEdgesDeliverTheirFrame : Obligations.LinkEdgesDeliverTheirFrame := by
  unfold Obligations.LinkEdgesDeliverTheirFrame
  intro s f hold hq ha
  have hedges : ((List.range 21).map fun k => Instr.linkBitSampled .low (f.getMsbD (k + 1)))
      = ((List.range 21).map fun k => f.getMsbD (k + 1)).map (.linkBitSampled .low) := by
    rw [List.map_map]
    rfl
  have hbits : [f.getMsbD 0] ++ ((List.range 21).map fun k => f.getMsbD (k + 1)) = bitsOfFrame f := by
    rw [bitsOfFrame, List.range_succ_eq_map, List.map_cons, List.map_map]
    rfl
  rw [runAll, exec_frameStart hold, State.qclkEdge_sync_of_idle hq ha, hedges]
  dsimp only
  rw [runAll_bits _ _ _ (by exact hold) rfl hbits (by simp),
    exec_sampleFrameArrival_of_canComplete hold (State.canComplete_iff.mpr (.inl ⟨ha, hq⟩))]

/-! ### The layout of an item (R186) -/

/-- The bits of a word below those of its slot id are those of the item's body. -/
theorem Item.word_extract_body (it : Item) {start len : Nat} (h : start + len ≤ 42) :
    it.word.extractLsb' start len = it.body.extractLsb' start len := BitVec.extractLsb'_append_eq_of_add_le h

theorem Item.word_getLsbD_body (it : Item) {i : Nat} (h : i < 42) : it.word.getLsbD i = it.body.getLsbD i := by
  rw [Item.word, BitVec.getLsbD_append, if_pos h]

theorem Item.word_kind (it : Item) : it.word.extractLsb' 45 3 = it.kind :=
  (BitVec.extractLsb'_append_eq_of_le (by decide)).trans BitVec.extractLsb'_append_eq_left

theorem Item.word_slot (it : Item) : it.word.extractLsb' 42 3 = BitVec.ofNat 3 it.slot.val :=
  (BitVec.extractLsb'_append_eq_of_le (by decide)).trans BitVec.extractLsb'_append_eq_right

theorem Item.kind_ne_zero (it : Item) : it.kind ≠ 0 := by cases it <;> simp [Item.kind]

/-- The bytes of a word, laid end to end, are the word. -/
theorem bytes_append_eq (x : BitVec 48) :
    x.extractLsb' 40 8 ++ x.extractLsb' 32 8 ++ x.extractLsb' 24 8 ++ x.extractLsb' 16 8 ++ x.extractLsb' 8 8
      ++ x.extractLsb' 0 8 = x := by
  rw [BitVec.extractLsb'_append_extractLsb'_eq_extractLsb' (by rfl : 40 = 32 + 8),
    BitVec.extractLsb'_append_extractLsb'_eq_extractLsb' (by rfl : 32 = 24 + 8),
    BitVec.extractLsb'_append_extractLsb'_eq_extractLsb' (by rfl : 24 = 16 + 8),
    BitVec.extractLsb'_append_extractLsb'_eq_extractLsb' (by rfl : 16 = 8 + 8),
    BitVec.extractLsb'_append_extractLsb'_eq_extractLsb' (by rfl : 8 = 0 + 8)]
  exact BitVec.extractLsb'_eq_self

/-- The fields of the body of a LEAD, SAMPLE, GAP or CORRUPT: lane, two marks, offset, value. -/
theorem laneItem_fields (l : BitVec 4) (p q : Bool) (o : BitVec 17) (v : BitVec 16) :
    let x := l ++ BitVec.ofBool p ++ BitVec.ofBool q ++ o ++ (0 : BitVec 3) ++ v
    x.extractLsb' 38 4 = l ∧ x.getLsbD 37 = p ∧ x.getLsbD 36 = q ∧ x.extractLsb' 19 17 = o ∧ x.extractLsb' 16 3 = 0
      ∧ x.extractLsb' 0 16 = v := by
  simp (disch := decide) only [BitVec.extractLsb'_append_eq_of_le, BitVec.extractLsb'_append_eq_of_add_le,
    BitVec.getLsbD_append]
  simp

/-- The fields of the body of an OPEN: lane count, origin, class and lead marks, label, trigger tag. -/
theorem openItem_fields (n : BitVec 4) (p q w : Bool) (label : BitVec 8) (t : BitVec 24) :
    let x := n ++ BitVec.ofBool p ++ BitVec.ofBool q ++ BitVec.ofBool w ++ (0 : BitVec 3) ++ label ++ t
    x.extractLsb' 38 4 = n ∧ x.getLsbD 37 = p ∧ x.getLsbD 36 = q ∧ x.getLsbD 35 = w ∧ x.extractLsb' 32 3 = 0
      ∧ x.extractLsb' 24 8 = label ∧ x.extractLsb' 0 24 = t := by
  simp (disch := decide) only [BitVec.extractLsb'_append_eq_of_le, BitVec.extractLsb'_append_eq_of_add_le,
    BitVec.getLsbD_append]
  simp

/-- The fields of the body of a CLOSE: ending, label, items written. -/
theorem closeItem_fields (e : BitVec 2) (label : BitVec 8) (n : BitVec 13) :
    let x := (0 : BitVec 4) ++ (0 : BitVec 2) ++ e ++ (0 : BitVec 2) ++ label ++ (0 : BitVec 11) ++ n
    x.extractLsb' 36 6 = 0 ∧ x.extractLsb' 32 2 = 0 ∧ x.extractLsb' 34 2 = e ∧ x.extractLsb' 24 8 = label
      ∧ x.extractLsb' 13 11 = 0 ∧ x.extractLsb' 0 13 = n := by
  simp (disch := decide) only [BitVec.extractLsb'_append_eq_of_le, BitVec.extractLsb'_append_eq_of_add_le]
  simp

theorem Ending.code_eq (e : Ending) :
    e.code = match e with | .complete => 0 | .truncated => 1 | .cancelled => 2 | .expired => 3 := by
  cases e <;> rfl

/-- Settles O14: the fields of the head in every kind, those of the body kind by kind. -/
theorem itemLayout : Obligations.ItemLayout := by
  unfold Obligations.ItemLayout
  intro it
  refine ⟨⟨_, _, _, _, _, _, rfl, bytes_append_eq _⟩, it.word_slot, it.word_kind ▸ it.kind_ne_zero, ?_⟩
  cases it <;> simp (disch := decide) only [Item.word_kind, Item.word_extract_body, Item.word_getLsbD_body]
  case lead _ l o v rs al => exact ⟨rfl, laneItem_fields (BitVec.ofNat 4 l.val) rs al (offsetBits o) v⟩
  case sample _ l o v rs al => exact ⟨rfl, laneItem_fields (BitVec.ofNat 4 l.val) rs al (offsetBits o) v⟩
  case gap _ l o n bb op => exact ⟨rfl, laneItem_fields (BitVec.ofNat 4 l.val) bb op (offsetBits o) n⟩
  case corrupt _ l g o v => exact ⟨rfl, laneItem_fields (BitVec.ofNat 4 l.val) g false (offsetBits o) v⟩
  case empty _ l =>
    exact ⟨rfl, BitVec.extractLsb'_append_eq_left (a := BitVec.ofNat 4 l.val) (b := (0 : BitVec 38)),
      BitVec.extractLsb'_append_eq_right (a := BitVec.ofNat 4 l.val) (b := (0 : BitVec 38))⟩
  case opened _ o c w label t n =>
    exact ⟨rfl, openItem_fields (BitVec.ofNat 4 (n - 1)) (o == .capture) (c == .urgent) w label t⟩
  case close _ label e n =>
    obtain ⟨hzero, hlow, hcode, hlabel, hmid, hn⟩ := closeItem_fields e.code label (BitVec.ofNat 13 n)
    exact ⟨rfl, hzero, hlow, hcode.trans e.code_eq, hlabel, hmid, hn⟩

/-! ### Protection (R23, R24) -/

/-- What a slot contributes to the protect age of a lane (R23). -/
theorem Request.contribution_eq_some_iff {now : Tag} {l : LaneId} {r : Request} {p : Nat} :
    r.contribution now l = some p ↔ r.state ≠ .closing ∧ r.ending = none ∧ r.lanes.getLsbD l = true
      ∧ p = if 1 ≤ (now - r.start).toNat ∧ (now - r.start).toNat < 8388608 then (now - r.start).toNat else 0 := by
  have hprotects : (r.protects && inSet r.lanes l) = true ↔ r.state ≠ .closing ∧ r.ending = none ∧ r.lanes.getLsbD l = true := by
    simp [Request.protects, inSet, and_assoc]
  have hage : (if isPast now r.start then age now r.start else 0)
      = if 1 ≤ (now - r.start).toNat ∧ (now - r.start).toNat < 8388608 then (now - r.start).toNat else 0 := by
    simp only [isPast_iff, age]
  rw [Request.contribution, Option.ite_none_right_eq_some, hprotects, hage, Option.some.injEq, eq_comm (b := p)]
  simp only [and_assoc]

theorem Session.contribution_eq_some_iff {l : LaneId} {x : Session} {p : Nat} :
    x.contribution l = some p ↔ x.watchSet.getLsbD l = true ∧ p = x.horizon.toNat := by
  rw [Session.contribution, Option.ite_none_right_eq_some, Option.some.injEq, eq_comm (b := p)]
  rfl

/-- The contributions the protect age is taken over are those of the sessions and the slots (R23). -/
theorem State.mem_contributions_iff (s : State) (l : LaneId) (p : Nat) :
    p ∈ (allMasters.flatMap fun m => (s.master m).contributions s.now l) ↔ s.Contributes l p := by
  have hmasters : ∀ n : Master, n ∈ allMasters := by decide
  have hslots : ∀ i : SlotId, i ∈ allSlots := by decide
  simp only [List.mem_flatMap, hmasters, true_and, MasterState.contributions, List.mem_append, Option.mem_toList,
    List.mem_filterMap, hslots, Option.bind_eq_some_iff, Request.contribution_eq_some_iff,
    Session.contribution_eq_some_iff, State.Contributes]

/-- All records are younger than the protect age, or the anchor stands before those that are (R24). -/
theorem unprotectedCount_of_none_older {now : Tag} {p : Nat} {rs : List Record} (h : ∀ r ∈ rs, (now - r.key).toNat ≤ p) :
    unprotectedCount now (some p) rs = 0 := by
  have hall : rs.reverse.dropWhile (fun r => age now r.key ≤ p) = [] := by
    rw [List.dropWhile_eq_nil_iff]
    exact fun r hr => decide_eq_true (h r (List.mem_reverse.mp hr))
  rw [unprotectedCount, hall]
  rfl

theorem unprotectedCount_of_anchor {now : Tag} {p : Nat} {older newer : List Record} {anchor : Record}
    (ha : p < (now - anchor.key).toNat) (hn : ∀ r ∈ newer, (now - r.key).toNat ≤ p) :
    unprotectedCount now (some p) (older ++ anchor :: newer) = older.length := by
  have hyoung : ∀ r ∈ newer.reverse, decide (age now r.key ≤ p) = true := fun r hr =>
    decide_eq_true (hn r (List.mem_reverse.mp hr))
  have hanchor : ¬ decide (age now anchor.key ≤ p) = true := mt of_decide_eq_true (not_le.mpr ha)
  have hdrop : (older ++ anchor :: newer).reverse.dropWhile (fun r => age now r.key ≤ p) = anchor :: older.reverse := by
    rw [List.reverse_append, List.reverse_cons, List.append_assoc, List.singleton_append,
      List.dropWhile_append_of_pos hyoung,
      List.dropWhile_cons_of_neg (p := fun r : Record => decide (age now r.key ≤ p)) hanchor]
  rw [unprotectedCount, hdrop]
  simp

/-- Settles O46: the largest contribution, and the place of the anchor. -/
theorem protectionKeepsTheAnchor : Obligations.ProtectionKeepsTheAnchor := by
  unfold Obligations.ProtectionKeepsTheAnchor
  refine ⟨fun s l => ⟨?_, fun p => ?_⟩, fun now p rs => ⟨rfl, unprotectedCount_of_none_older, ?_⟩⟩
  · simp only [State.protectAge, List.max?_eq_none_iff, List.eq_nil_iff_forall_not_mem, State.mem_contributions_iff]
  · simp only [State.protectAge, List.max?_eq_some_iff, State.mem_contributions_iff]
  · rintro older anchor newer rfl ha hn
    exact unprotectedCount_of_anchor ha hn

end Sys2Proof.Machine
end

section
/-! PROOFS. The extraction engine (chapter 6): the first item of a service, the completion of an item, and what the
search for the next item finds. -/

namespace Sys2Proof.Machine

/-! ### The first item of a service (R100, R107, R108) -/

theorem length_lanesOf (ls : LaneSet) : (lanesOf ls).length = (List.range 16).countP ls.getLsbD := by
  have hlanes : (List.range 16) = allLanes.map Fin.val := by decide
  rw [lanesOf, ← List.countP_eq_length_filter, hlanes, List.countP_map]
  rfl

section
variable {s : State} {m : Master} {i : SlotId} {r : Request}

theorem State.nextItem_of_none (h : s.search i r = none) : s.nextItem m i r = s.finishRequest m i r .complete := by
  rw [State.nextItem, h]

theorem State.nextItem_of_spent {f : Flight} (h : s.search i r = some f) (hb : r.itemsWritten = r.budget) :
    s.nextItem m i r = s.finishRequest m i r .truncated := by
  rw [State.nextItem, h]
  exact if_pos hb

theorem State.nextItem_of_some {f : Flight} (h : s.search i r = some f) (hb : r.itemsWritten ≠ r.budget) :
    s.nextItem m i r = s.serve m i r f := by
  rw [State.nextItem, h]
  exact if_neg hb

section
variable (hr : (s.master m).slot i = some r)
include hr

theorem State.select_of_ending {e : Ending} (he : r.ending = some e) :
    s.select m i = s.serve m i r (r.closeFlight i e) := by
  simp only [State.select, hr, he]

theorem State.select_of_not_opened (he : r.ending = none) (ho : r.opened = false) :
    s.select m i = s.serve m i r (r.openFlight i) := by
  simp [State.select, hr, he, ho]

theorem State.select_of_opened (he : r.ending = none) (ho : r.opened = true) : s.select m i = s.nextItem m i r := by
  simp [State.select, hr, he, ho]

end
end

/-- Settles O49: a selection by the ending, the opened field, the search and the budget. -/
theorem selectionStartsTheFirstItem : Obligations.SelectionStartsTheFirstItem := by
  unfold Obligations.SelectionStartsTheFirstItem
  refine fun s m i r hr => ⟨fun e he => ?_, fun he ho => ?_, fun he ho => ⟨fun h => ?_, fun f h hb => ?_, fun f h hb => ?_⟩⟩
  · rw [State.select_of_ending hr he]
    rfl
  · rw [State.select_of_not_opened hr he ho, Request.openFlight, length_lanesOf]
    rfl
  all_goals rw [State.select_of_opened hr he ho]
  · rw [State.nextItem_of_none h]
    rfl
  · rw [State.nextItem_of_spent h hb]
    rfl
  · rw [State.nextItem_of_some h hb]
    rfl

/-! ### The completion of an item (R101) -/

/-- Settles O50: the engine IDLE, or a CLOSE in flight. -/
theorem closeCompletionFreesTheSlot : Obligations.CloseCompletionFreesTheSlot := by
  unfold Obligations.CloseCompletionFreesTheSlot
  refine fun s hold => ⟨fun hidle => ?_, fun m i k label e n after hv => ?_⟩
  · rw [exec_itemCompletion hold, State.completeItem, hidle]
  · rw [exec_itemCompletion hold, State.completeItem, hv]
    simp only [Item.isClose, if_true, State.onMaster_onMaster]
    rfl

theorem Item.counted_eq {it : Item} (h : it.isClose = false) : it.counted = !it.isOpen := by
  cases it with
  | close => cases h
  | opened | lead | sample | gap | corrupt | empty => rfl

section
variable {s : State} {m : Master} {i : SlotId} {f : Flight} {r : Request}

/-- The completion of an item other than a CLOSE is a boundary of its slot. -/
theorem exec_itemCompletion_boundary (hold : s.resetHold = false) (hv : s.serving = some ⟨m, i, f⟩)
    (hr : (s.master m).slot i = some r) (hf : f.item.isClose = false) :
    exec .itemCompletion s = .next
      (((s.onMaster m fun x => { x with items := x.items ++ [f.item] }).countCorrupt f.item).boundary m i (r.itemDone f)) := by
  rw [exec_itemCompletion hold, State.completeItem, hv]
  simp only [hf, hr]
  rfl

theorem Request.itemDone_eq (hf : f.item.isClose = false) : r.itemDone f = { r with
    opened := r.opened || f.item.isOpen
    itemsWritten := if f.item.isOpen = true then r.itemsWritten else r.itemsWritten + 1
    resume := if r.ending = none then f.after else r.resume } := by
  have hcount : (if f.item.counted = true then r.itemsWritten + 1 else r.itemsWritten)
      = if f.item.isOpen = true then r.itemsWritten else r.itemsWritten + 1 := by
    rw [Item.counted_eq hf]
    cases f.item.isOpen <;> rfl
  have hresume : (if r.ending.isSome then r.resume else f.after) = if r.ending = none then f.after else r.resume := by
    cases r.ending <;> rfl
  rw [Request.itemDone, hcount, hresume]

theorem MasterState.hasRoom_iff (x : MasterState) : x.hasRoom = true ↔ x.items.length < 128 := decide_eq_true_iff

theorem State.urgentEligible_iff : s.urgentEligible = true ↔ ∃ n j, (s.master n).Eligible .urgent j := by
  rw [State.urgentEligible, Option.isSome_iff_ne_none, ne_eq, State.pick_eq_none_iff]
  simp only [not_forall, not_not]

/-! ### The decisions at an item boundary (R103) -/

theorem State.boundary_close {e : Ending} (he : r.ending = some e) (hroom : (s.master m).items.length < 128) :
    s.boundary m i r = s.serve m i r (r.closeFlight i e) := by
  simp only [State.boundary, he, (MasterState.hasRoom_iff _).mpr hroom, if_true]

theorem State.boundary_close_aside {e : Ending} (he : r.ending = some e) (hfull : 128 ≤ (s.master m).items.length) :
    s.boundary m i r = s.setAside m i r .closing := by
  simp only [State.boundary, he]
  exact if_neg (mt (MasterState.hasRoom_iff _).mp (not_lt.mpr hfull))

theorem State.boundary_aside (he : r.ending = none)
    (h : 128 ≤ (s.master m).items.length ∨ (r.cls = .normal ∧ ∃ n j, (s.master n).Eligible .urgent j)) :
    s.boundary m i r = s.setAside m i r .ready := by
  simp only [State.boundary, he]
  by_cases hroom : (s.master m).hasRoom = true
  · obtain hfull | ⟨hcls, hurgent⟩ := h
    · exact absurd ((MasterState.hasRoom_iff _).mp hroom) (not_lt.mpr hfull)
    · simp [hroom, hcls, State.urgentEligible_iff.mpr hurgent]
  · simp [hroom]

theorem State.boundary_next (he : r.ending = none) (hroom : (s.master m).items.length < 128)
    (h : r.cls = .urgent ∨ ∀ n j, ¬ (s.master n).Eligible .urgent j) : s.boundary m i r = s.nextItem m i r := by
  have hstay : (r.cls == .normal && s.urgentEligible) = false := by
    rw [Bool.and_eq_false_iff]
    refine h.imp (fun hc => by rw [hc]; rfl) fun hnone => ?_
    rw [← Bool.not_eq_true, State.urgentEligible_iff]
    exact fun ⟨n, j, hj⟩ => hnone n j hj
  simp only [State.boundary, he, (MasterState.hasRoom_iff _).mpr hroom, hstay]
  rfl

end

/-- Settles O51: the item joins the buffer and its slot's progress is kept, then the decisions in their order. -/
theorem itemBoundaryDecisions : Obligations.ItemBoundaryDecisions := by
  unfold Obligations.ItemBoundaryDecisions
  intro s t m i f r q hold hv hr hf hq ht
  have htq : exec .itemCompletion s = .next (t.boundary m i q) := by
    rw [exec_itemCompletion_boundary hold hv hr hf, Request.itemDone_eq hf, ← hq, ht]
    cases f.item <;> rfl
  have hlen : (t.master m).items.length = (s.master m).items.length + 1 := by
    rw [ht]
    split <;> simp
  have hend : q.ending = r.ending := by rw [hq]
  have hcls : q.cls = r.cls := by rw [hq]
  have hlabel : q.label = r.label := by rw [hq]
  rw [htq, ← hend, ← hcls, ← hlabel]
  refine ⟨fun e he hroom => ?_, fun e he hfull => ?_, fun he h => ?_, fun he hroom h => ?_⟩
  · rw [State.boundary_close he (by omega)]
    rfl
  · rw [State.boundary_close_aside he (by omega)]
    rfl
  · rw [State.boundary_aside he (h.imp_left fun hfull => by omega)]
    rfl
  · rw [State.boundary_next he (by omega) h]
    refine ⟨fun hs => ?_, fun g hs hb => ?_, fun g hs hb => ?_⟩
    · rw [State.nextItem_of_none hs]
      rfl
    · rw [State.nextItem_of_spent hs hb]
      rfl
    · rw [State.nextItem_of_some hs hb]
      rfl

end Sys2Proof.Machine
end

section
/-! PROOFS. The search for the next item (R108 to R116): the phases of a lane in the manual's numbers, the records that
SAMPLE items report, and the lanes in their order. -/

namespace Sys2Proof.Machine

section
variable {now : Tag} {i : SlotId} {r : Request} {x : Lane} {l : LaneId} {last : Option Tag} {b : Bool}

/-! ### One phase after the other (R109) -/

theorem searchLane_lead : searchLane now i r x ⟨l, .lead, last, b⟩
    = (leadPhase now i r l x).or (searchLane now i r x ⟨l, .records, last, b⟩) := Option.or_assoc

theorem searchLane_records : searchLane now i r x ⟨l, .records, last, b⟩
    = (recordsPhase now i r l x last).or (searchLane now i r x ⟨l, .finish, last, b⟩) := rfl

theorem searchLane_finish : searchLane now i r x ⟨l, .finish, last, b⟩ = finishPhase now i r l x last b := rfl

/-- A phase that yields an item ends the search of its lane. -/
theorem searchLane_lead_of_some {f : Flight} (h : leadPhase now i r l x = some f) :
    searchLane now i r x ⟨l, .lead, last, b⟩ = some f := by
  rw [searchLane_lead, h, Option.some_or]

theorem searchLane_lead_of_none (h : leadPhase now i r l x = none) :
    searchLane now i r x ⟨l, .lead, last, b⟩ = searchLane now i r x ⟨l, .records, last, b⟩ := by
  rw [searchLane_lead, h, Option.none_or]

theorem searchLane_records_of_some {f : Flight} (h : recordsPhase now i r l x last = some f) :
    searchLane now i r x ⟨l, .records, last, b⟩ = some f := by
  rw [searchLane_records, h, Option.some_or]

/-! ### LEAD (R110, R113, R114) -/

/-- The newest record before the window, none of the newer ones standing there. -/
theorem getLast?_beforeWindow {older newer : List Record} {lead : Record} (hx : x.records = older ++ lead :: newer)
    (hlead : r.BeforeWindow lead.key) (hnewer : ∀ d ∈ newer, ¬ r.BeforeWindow d.key) :
    (x.records.filter fun c => r.beforeWindow c.key).getLast? = some lead := by
  have hnone : newer.filter (fun c => r.beforeWindow c.key) = [] :=
    List.filter_eq_nil_iff.mpr fun d hd => mt (r.beforeWindow_iff _).mp (hnewer d hd)
  have hkept : (lead :: newer).filter (fun c => r.beforeWindow c.key) = [lead] := by
    rw [List.filter_cons, if_pos ((r.beforeWindow_iff _).mpr hlead), hnone]
  rw [hx, List.filter_append, hkept, List.getLast?_concat]

theorem leadPhase_of_none (h : ∀ d ∈ x.records, ¬ r.BeforeWindow d.key) : leadPhase now i r l x = none := by
  have hnone : x.records.filter (fun c => r.beforeWindow c.key) = [] :=
    List.filter_eq_nil_iff.mpr fun d hd => mt (r.beforeWindow_iff _).mp (h d hd)
  rw [leadPhase, hnone]
  rfl

section
variable {k lastLost : Tag} {v : Half} {n : Counter} {rs al ok : Bool}

theorem leadPhase_sample
    (h : (x.records.filter fun c => r.beforeWindow c.key).getLast? = some (.sample k v rs al ok)) :
    leadPhase now i r l x = if r.leadWanted then
        some ⟨if ok then .lead i l (max (tagOffset now k r.trigger) (-65536)) v rs al
            else .corrupt i l false (max (tagOffset now k r.trigger) (-65536)) v, some ⟨l, .records, none, true⟩⟩
      else none := by
  rw [leadPhase, h]
  simp only [corruptItem, clampOffset, offset_eq]

/-- The first offset of a GAP that begins before the window is -pre (R115). -/
theorem gapOffset_of_before (h : r.BeforeWindow k) : gapOffset now r k = -(r.pre.toNat : Int) :=
  if_neg (mt (r.inWindow_iff k).mp h.1)

theorem gapOffset_of_in (h : r.InWindow k) : gapOffset now r k = tagOffset now k r.trigger :=
  (if_pos ((r.inWindow_iff k).mpr h)).trans (offset_eq ..)

theorem leadPhase_gap (hk : r.BeforeWindow k)
    (h : (x.records.filter fun c => r.beforeWindow c.key).getLast? = some (.gap k lastLost n ok)) :
    leadPhase now i r l x = if r.leadWanted || !r.beforeWindow lastLost then
        some ⟨if ok then .gap i l (-(r.pre.toNat : Int)) n true false
            else .corrupt i l true (max (tagOffset now k r.trigger) (-65536)) 0, some ⟨l, .records, none, true⟩⟩
      else none := by
  rw [leadPhase, h]
  simp only [corruptItem, clampOffset, offset_eq, gapOffset_of_before hk]

end

/-! ### RECORDS (R111, R113 to R115) -/

/-- The item of a record in the window, whose offset needs no clamping (R12). -/
theorem recordItem_eq (c : Record) : r.InWindow c.key → recordItem now i r l c = match c with
      | .sample k v rs al true => .sample i l (tagOffset now k r.trigger) v rs al
      | .gap k _ n true => .gap i l (tagOffset now k r.trigger) n false false
      | .sample k v _ _ false => .corrupt i l false (tagOffset now k r.trigger) v
      | .gap k _ _ false => .corrupt i l true (tagOffset now k r.trigger) 0 := by
  intro hc
  have hbound : -65536 ≤ tagOffset now c.key r.trigger := by
    have hlow := (hc.tagOffset_bounds now).1
    have hpre := r.pre.isLt
    omega
  cases c with
  | sample k v rs al ok =>
    have hclamp : clampOffset (tagOffset now k r.trigger) = tagOffset now k r.trigger := max_eq_left hbound
    cases ok <;> simp [recordItem, corruptItem, hclamp, offset_eq]
  | gap k k' n ok =>
    have hclamp : clampOffset (tagOffset now k r.trigger) = tagOffset now k r.trigger := max_eq_left hbound
    have hgap : gapOffset now r k = tagOffset now k r.trigger := gapOffset_of_in hc
    cases ok <;> simp [recordItem, corruptItem, hclamp, hgap, offset_eq]

/-- The test of the RECORDS phase in numbers. -/
theorem recordsTest_iff (c : Record) : (r.inWindow c.key && last.all fun k => tagBefore now k c.key) = true
    ↔ r.InWindow c.key ∧ ∀ k, last = some k → TagBefore now k c.key := by
  rw [Bool.and_eq_true, Request.inWindow_iff, notPassed_iff]

theorem recordsPhase_of_first {older newer : List Record} {c : Record} (hx : x.records = older ++ c :: newer)
    (hc : r.InWindow c.key) (hk : ∀ k, last = some k → TagBefore now k c.key)
    (holder : ∀ d ∈ older, r.InWindow d.key → ∃ k, last = some k ∧ ¬ TagBefore now k d.key) :
    recordsPhase now i r l x last = some ⟨recordItem now i r l c, some ⟨l, .records, some c.key, true⟩⟩ := by
  have hfind : x.records.find? (fun c => r.inWindow c.key && last.all fun k => tagBefore now k c.key) = some c := by
    refine List.find?_eq_some_iff_append.mpr ⟨(recordsTest_iff c).mpr ⟨hc, hk⟩, older, newer, hx, fun d hd => ?_⟩
    rw [Bool.not_eq_true', ← Bool.not_eq_true, recordsTest_iff]
    rintro ⟨hin, hpassed⟩
    obtain ⟨k, hlast, hnot⟩ := holder d hd hin
    exact hnot (hpassed k hlast)
  rw [recordsPhase, hfind]
  rfl

theorem recordsPhase_eq_none_iff : recordsPhase now i r l x last = none
    ↔ ∀ d ∈ x.records, r.InWindow d.key → ∃ k, last = some k ∧ ¬ TagBefore now k d.key := by
  simp only [recordsPhase, Option.map_eq_none_iff, List.find?_eq_none, recordsTest_iff, not_and, not_forall, exists_prop]

/-! ### FINISH (R112, R115) -/

theorem finishPhase_of_gap {g : OpenGap} (hg : x.openGap = some g)
    (hin : r.InWindow g.firstLost ∨ r.BeforeWindow g.firstLost) (hk : ∀ k, last = some k → TagBefore now k g.firstLost) :
    finishPhase now i r l x last b =
      some ⟨.gap i l (gapOffset now r g.firstLost) g.lostCount (r.beforeWindow g.firstLost) true,
        some ⟨l, .finish, some g.firstLost, true⟩⟩ := by
  have hreport : x.openGap.filter (finishReportsGap now r last) = some g := by
    rw [hg]
    exact Option.filter_some_pos ((finishReportsGap_iff ..).mpr ⟨hin, hk⟩)
  rw [finishPhase, hreport]

theorem filter_openGap_eq_none_iff : x.openGap.filter (finishReportsGap now r last) = none
    ↔ ∀ g, x.openGap = some g → r.InWindow g.firstLost ∨ r.BeforeWindow g.firstLost →
        ∃ k, last = some k ∧ ¬ TagBefore now k g.firstLost := by
  simp only [Option.filter_eq_none_iff, finishReportsGap_iff, not_and, not_forall, exists_prop]

theorem finishPhase_of_no_gap (h : x.openGap.filter (finishReportsGap now r last) = none) :
    finishPhase now i r l x last b = if b = true then none else some ⟨.empty i l, some ⟨l, .finish, none, true⟩⟩ := by
  rw [finishPhase, h]

/-! ### A lane entered by the search (R112) -/

/-- The FINISH phase of a lane that has contributed nothing always gives an item. -/
theorem finishPhase_ne_none : finishPhase now i r l x last false ≠ none := by
  cases h : x.openGap.filter (finishReportsGap now r last) with
  | none =>
    rw [finishPhase_of_no_gap h]
    exact Option.some_ne_none _
  | some g =>
    rw [finishPhase, h]
    exact Option.some_ne_none _

theorem searchLane_entry_ne_none : searchLane now i r x ⟨l, .lead, none, false⟩ ≠ none := by
  rw [searchLane_lead, searchLane_records, searchLane_finish, ne_eq, Option.or_eq_none_iff, Option.or_eq_none_iff]
  exact fun h => finishPhase_ne_none h.2.2

/-- The items of the LEAD and RECORDS phases leave their lane in the RECORDS phase (R116). -/
theorem leadPhase_after {f : Flight} (h : leadPhase now i r l x = some f) : f.after = some ⟨l, .records, none, true⟩ := by
  unfold leadPhase at h
  split at h
  · cases h
  all_goals
    split at h
    · cases h
      rfl
    · cases h

theorem recordsPhase_after {f : Flight} (h : recordsPhase now i r l x last = some f) :
    ∃ k, f.after = some ⟨l, .records, some k, true⟩ := by
  obtain ⟨c, -, rfl⟩ := Option.map_eq_some_iff.mp h
  exact ⟨c.key, rfl⟩

/-- The item of an entered lane is EMPTY exactly when no phase has anything to report. -/
theorem searchLane_entry_eq_empty_iff :
    searchLane now i r x ⟨l, .lead, none, false⟩ = some ⟨.empty i l, some ⟨l, .finish, none, true⟩⟩
      ↔ leadPhase now i r l x = none ∧ recordsPhase now i r l x none = none
        ∧ x.openGap.filter (finishReportsGap now r none) = none := by
  rw [searchLane_lead, searchLane_records, searchLane_finish]
  cases hlead : leadPhase now i r l x with
  | some f =>
    refine ⟨fun h => ?_, fun h => absurd h.1 (Option.some_ne_none _)⟩
    obtain rfl := Option.some.inj h
    exact absurd (leadPhase_after hlead) (by simp)
  | none =>
    cases hrec : recordsPhase now i r l x none with
    | some f =>
      refine ⟨fun h => ?_, fun h => absurd h.2.1 (Option.some_ne_none _)⟩
      obtain rfl := Option.some.inj h
      obtain ⟨k, hk⟩ := recordsPhase_after hrec
      exact absurd hk (by simp)
    | none =>
      cases hgap : x.openGap.filter (finishReportsGap now r none) with
      | some g => simp [finishPhase, hgap]
      | none => simp [finishPhase, hgap]

/-- A tag neither in the window nor before it lies less than half the range behind its start. -/
theorem not_reaching_iff (t : Tag) : ¬ (r.InWindow t ∨ r.BeforeWindow t) ↔
    r.pre.toNat + r.post.toNat < (t - (r.trigger - r.pre.setWidth 24)).toNat
      ∧ (t - (r.trigger - r.pre.setWidth 24)).toNat < 8388608 := by
  unfold Request.BeforeWindow Request.InWindow
  generalize r.trigger - r.pre.setWidth 24 = start
  have hsum : t ≠ start → (t - start).toNat + (start - t).toNat = 16777216 := fun h => by bv_omega
  by_cases h : t = start
  · subst h
    simp
  · have := hsum h
    omega

end

/-- Settles O53: the entered lane always gives an item, and EMPTY when every phase passes. -/
theorem emptyItemsStandForNothingElse : Obligations.EmptyItemsStandForNothingElse := by
  unfold Obligations.EmptyItemsStandForNothingElse
  intro now i r x l
  have hwindow : ∀ t : Tag, ¬ r.InWindow t ↔ r.pre.toNat + r.post.toNat < (t - (r.trigger - r.pre.setWidth 24)).toNat :=
    fun t => not_le
  refine ⟨searchLane_entry_ne_none, searchLane_entry_eq_empty_iff.trans (and_congr_right fun _ => and_congr ?_ ?_)⟩
  · rw [recordsPhase_eq_none_iff]
    simp only [reduceCtorEq, false_and, exists_false, imp_false, hwindow]
  · rw [filter_openGap_eq_none_iff]
    simp only [reduceCtorEq, false_and, exists_false, imp_false, not_reaching_iff]

/-! ### SAMPLE items report records (R111, R114) -/

section
variable {now : Tag} {i k : SlotId} {r : Request} {x : Lane} {l lane : LaneId} {last : Option Tag} {b : Bool} {o : Int}
  {v : Half} {rs al : Bool} {after : Option Resume}

/-- A signed distance from the trigger tag leads back to its tag. -/
theorem add_ofInt_tagOffset (now t trigger : Tag) : trigger + BitVec.ofInt 24 (tagOffset now t trigger) = t := by
  unfold tagOffset
  split
  · rw [BitVec.ofInt_natCast, BitVec.ofNat_toNat, BitVec.setWidth_eq]
    bv_omega
  · rw [BitVec.ofInt_neg, BitVec.ofInt_natCast, BitVec.ofNat_toNat, BitVec.setWidth_eq]
    bv_omega

theorem leadPhase_ne_sample : leadPhase now i r l x ≠ some ⟨.sample k lane o v rs al, after⟩ := by
  intro h
  unfold leadPhase at h
  split at h
  · cases h
  all_goals
    split at h
    · obtain ⟨hitem, -⟩ := Flight.mk.inj (Option.some.inj h)
      split at hitem <;> simp [corruptItem] at hitem
    · cases h

theorem finishPhase_ne_sample : finishPhase now i r l x last b ≠ some ⟨.sample k lane o v rs al, after⟩ := by
  intro h
  unfold finishPhase at h
  split at h
  · cases h
  · split at h <;> cases h

theorem eq_of_recordItem_sample {c : Record} (hc : r.InWindow c.key)
    (h : recordItem now i r l c = .sample k lane o v rs al) :
    k = i ∧ lane = l ∧ c = .sample c.key v rs al true ∧ o = tagOffset now c.key r.trigger := by
  rw [recordItem_eq c hc] at h
  split at h <;> simp_all [Record.key]

/-- A SAMPLE of the RECORDS phase reports a record of the lane in the window. -/
theorem record_of_recordsPhase_sample (h : recordsPhase now i r l x last = some ⟨.sample k lane o v rs al, after⟩) :
    k = i ∧ lane = l ∧ ∃ t, r.InWindow t ∧ .sample t v rs al true ∈ x.records ∧ o = tagOffset now t r.trigger
      ∧ after = some ⟨l, .records, some t, true⟩ := by
  obtain ⟨c, hfind, hc⟩ := Option.map_eq_some_iff.mp h
  obtain ⟨hitem, rfl⟩ := Flight.mk.inj hc
  have htest : (r.inWindow c.key && last.all fun k => tagBefore now k c.key) = true :=
    List.find?_some (p := fun c : Record => r.inWindow c.key && last.all fun k => tagBefore now k c.key) hfind
  have hin : r.InWindow c.key := ((recordsTest_iff c).mp htest).1
  obtain ⟨rfl, rfl, hrecord, rfl⟩ := eq_of_recordItem_sample hin hitem
  exact ⟨rfl, rfl, c.key, hin, hrecord ▸ List.mem_of_find?_eq_some hfind, rfl, rfl⟩

/-- A SAMPLE found in a lane comes from its RECORDS phase. -/
theorem record_of_searchLane_sample {p : Resume} (h : searchLane now i r x p = some ⟨.sample k lane o v rs al, after⟩) :
    k = i ∧ lane = p.lane ∧ ∃ t, r.InWindow t ∧ .sample t v rs al true ∈ x.records ∧ o = tagOffset now t r.trigger
      ∧ after = some ⟨p.lane, .records, some t, true⟩ := by
  have hrecords : ∀ {l last b}, searchLane now i r x ⟨l, .records, last, b⟩ = some ⟨.sample k lane o v rs al, after⟩ →
      recordsPhase now i r l x last = some ⟨.sample k lane o v rs al, after⟩ := fun h => by
    rw [searchLane_records, searchLane_finish, Option.or_eq_some_iff] at h
    exact h.resolve_right fun hfinish => finishPhase_ne_sample hfinish.2
  obtain ⟨l, phase, last, b⟩ := p
  cases phase with
  | lead =>
    rw [searchLane_lead, Option.or_eq_some_iff] at h
    exact record_of_recordsPhase_sample (hrecords (h.resolve_left leadPhase_ne_sample).2)
  | records => exact record_of_recordsPhase_sample (hrecords h)
  | finish => exact absurd (searchLane_finish.symm.trans h) finishPhase_ne_sample

/-- An item a search finds is found in the current lane or in a lane of the set, entered from its LEAD phase (R109). -/
theorem State.search_cases {s : State} {f : Flight} (h : s.search i r = some f) :
    searchLane s.now i r (s.lane r.position.lane) r.position = some f
      ∨ ∃ l, r.lanes.getLsbD l.val = true ∧ searchLane s.now i r (s.lane l) (Resume.entry l) = some f := by
  rw [State.search, Option.or_eq_some_iff] at h
  refine h.imp_right fun ⟨_, habove⟩ => ?_
  obtain ⟨l, hmem, hl⟩ := List.exists_of_findSome?_eq_some habove
  exact ⟨l, (mem_lanesOf _ _).mp (List.mem_filter.mp hmem).1, hl⟩

end

/-! ### The lanes in their order (R109) -/

/-- The search goes on with the lowest lane of the set above the current one. -/
theorem lanesAbove_eq_cons {ls : LaneSet} {p l : LaneId} (hl : ls.getLsbD l = true) (hp : p < l)
    (hlowest : ∀ k : LaneId, ls.getLsbD k = true → p < k → l ≤ k) :
    ∃ rest, (lanesOf ls).filter (p < ·) = l :: rest := by
  have hmem : ∀ k, k ∈ (lanesOf ls).filter (p < ·) ↔ ls.getLsbD k = true ∧ p < k := fun k => by
    rw [List.mem_filter, mem_lanesOf, decide_eq_true_eq]
  have hsorted := (lanesOf_ascending ls).filter (p < ·)
  cases habove : (lanesOf ls).filter (p < ·) with
  | nil =>
    have := (hmem l).mpr ⟨hl, hp⟩
    simp [habove] at this
  | cons k rest =>
    rw [habove] at hmem hsorted
    obtain ⟨hk, hpk⟩ := (hmem k).mp List.mem_cons_self
    have hle : l ≤ k := hlowest k hk hpk
    rcases List.mem_cons.mp ((hmem l).mpr ⟨hl, hp⟩) with rfl | hrest
    · exact ⟨rest, rfl⟩
    · exact absurd (List.rel_of_pairwise_cons hsorted hrest) (not_lt.mpr hle)

section
variable {s : State} {i : SlotId} {r : Request} {p : Resume} (hp : r.resume = some p)
include hp

theorem State.search_of_current {f : Flight} (h : searchLane s.now i r (s.lane p.lane) p = some f) :
    s.search i r = some f := by
  rw [State.search, Request.position, hp, Option.getD_some, h, Option.some_or]

theorem State.search_of_current_done (h : searchLane s.now i r (s.lane p.lane) p = none) :
    s.search i r = ((lanesOf r.lanes).filter (p.lane < ·)).findSome? fun l =>
      searchLane s.now i r (s.lane l) (Resume.entry l) := by
  rw [State.search, Request.position, hp, Option.getD_some, h, Option.none_or]

/-- The next lane is the lowest one of the set above the current one; entered, it gives an item. -/
theorem State.search_next_lane (h : searchLane s.now i r (s.lane p.lane) p = none) {l : LaneId}
    (hl : r.lanes.getLsbD l.val = true) (hpl : p.lane < l)
    (hlowest : ∀ k : LaneId, r.lanes.getLsbD k.val = true → p.lane < k → l ≤ k) :
    s.search i r = searchLane s.now i r (s.lane l) ⟨l, .lead, none, false⟩ := by
  obtain ⟨rest, habove⟩ := lanesAbove_eq_cons hl hpl hlowest
  obtain ⟨f, hf⟩ := Option.ne_none_iff_exists'.mp
    (searchLane_entry_ne_none (now := s.now) (i := i) (r := r) (x := s.lane l) (l := l))
  rw [State.search_of_current_done hp h, habove, List.findSome?_cons, Resume.entry, hf]

theorem State.search_no_lane (h : searchLane s.now i r (s.lane p.lane) p = none)
    (hlast : ∀ l : LaneId, r.lanes.getLsbD l.val = true → l ≤ p.lane) : s.search i r = none := by
  have habove : (lanesOf r.lanes).filter (p.lane < ·) = [] := List.filter_eq_nil_iff.mpr fun l hl => by
    simpa using hlast l ((mem_lanesOf _ _).mp hl)
  rw [State.search_of_current_done hp h, habove, List.findSome?_nil]

end

/-- Settles O52: the records SAMPLE items report, each phase by what the lane holds, and the lanes in their order. -/
theorem sampleItemsReportRecordsInTheWindow : Obligations.SampleItemsReportRecordsInTheWindow := by
  unfold Obligations.SampleItemsReportRecordsInTheWindow
  refine ⟨fun s i k r l o v rs al after h => ?_, fun now i r x l last b => ⟨fun older newer lead hx hlead hnewer => ?_,
    fun hnone => searchLane_lead_of_none (leadPhase_of_none hnone), fun older newer c hx hc hk holder => ?_,
    fun hnone => ?_, fun g hg hk => ⟨fun hin => ?_, fun hbefore => ?_⟩, fun hnone => ?_⟩,
    fun s i r p hp => ⟨fun f h => State.search_of_current hp h, fun h => ⟨fun l hl hpl hlowest =>
      State.search_next_lane hp h hl hpl hlowest, fun hlast => State.search_no_lane hp h hlast⟩⟩⟩
  · have hreport : ∀ {p : Resume}, searchLane s.now i r (s.lane p.lane) p = some ⟨.sample k l o v rs al, after⟩ →
        k = i ∧ l = p.lane ∧ -(r.pre.toNat : Int) ≤ o ∧ o ≤ r.post.toNat
          ∧ .sample (r.trigger + BitVec.ofInt 24 o) v rs al true ∈ (s.lane p.lane).records
          ∧ after = some ⟨p.lane, .records, some (r.trigger + BitVec.ofInt 24 o), true⟩ := fun hp => by
      obtain ⟨rfl, rfl, t, hin, hmem, rfl, rfl⟩ := record_of_searchLane_sample hp
      obtain ⟨hlow, hhigh⟩ := hin.tagOffset_bounds s.now
      rw [add_ofInt_tagOffset]
      exact ⟨rfl, rfl, hlow, hhigh, hmem, rfl⟩
    obtain h | ⟨l', hl', h⟩ := State.search_cases h
    · obtain ⟨hk, rfl, hlow, hhigh, hmem, hafter⟩ := hreport h
      exact ⟨hk, hlow, hhigh, .inr rfl, hmem, hafter⟩
    · obtain ⟨hk, rfl, hlow, hhigh, hmem, hafter⟩ := hreport (p := Resume.entry l') h
      exact ⟨hk, hlow, hhigh, .inl hl', hmem, hafter⟩
  · have hlast := getLast?_beforeWindow hx hlead hnewer
    cases lead with
    | sample k v rs al ok =>
      have hphase := leadPhase_sample (now := now) (i := i) (l := l) hlast
      refine ⟨fun hw => ?_, fun hw => searchLane_lead_of_none ?_⟩
      · rw [if_pos hw] at hphase
        exact searchLane_lead_of_some hphase
      · rw [hphase, hw]
        rfl
    | gap k lastLost n ok =>
      have hphase := leadPhase_gap (now := now) (i := i) (l := l) hlead hlast
      refine ⟨fun hw => ?_, fun hw hbefore => searchLane_lead_of_none ?_⟩
      · have hreported : (r.leadWanted || !r.beforeWindow lastLost) = true := by
          rw [Bool.or_eq_true, Bool.not_eq_true', ← Bool.not_eq_true, Request.beforeWindow_iff]
          exact hw
        rw [if_pos hreported] at hphase
        exact searchLane_lead_of_some hphase
      · rw [hphase, hw, (r.beforeWindow_iff _).mpr hbefore]
        rfl
  · have hphase := recordsPhase_of_first (now := now) (i := i) (l := l) hx hc hk holder
    rw [recordItem_eq c hc] at hphase
    exact searchLane_records_of_some hphase
  · rw [searchLane_records, recordsPhase_eq_none_iff.mpr hnone, Option.none_or]
  · have hnot : r.beforeWindow g.firstLost = false :=
      Bool.not_eq_true _ ▸ mt (r.beforeWindow_iff _).mp hin.not_beforeWindow
    rw [searchLane_finish, finishPhase_of_gap hg (.inl hin) hk, gapOffset_of_in hin, hnot]
  · rw [searchLane_finish, finishPhase_of_gap hg (.inr hbefore) hk, gapOffset_of_before hbefore,
      (r.beforeWindow_iff _).mpr hbefore]
  · rw [searchLane_finish, finishPhase_of_no_gap (filter_openGap_eq_none_iff.mpr hnone)]

end Sys2Proof.Machine
end
